-- ==== Sys2Proof/Word.lean ====
section
/-!
DEFINITION. The two word sizes of the machine (00_scope.md R6, R9): the 8-bit byte, its addressable unit, and the 16-bit word of
PC, SP, the register pairs and the address bus. Bit 0 is the least significant bit of any value.
-/

namespace Sys2Proof

/-- An 8-bit byte (R6). -/
abbrev Byte := BitVec 8

/-- A 16-bit word: a register pair, PC, SP or a bus address (R6). -/
abbrev Word := BitVec 16

end Sys2Proof
end

