-- ==== Sys2Proof/Syntax.lean ====
section
/-!
DEFINITION. The instruction set as syntax: the operand tables of 30_encoding.md (R164 to R167), `Instr` with one constructor for each of
the 512 rows of opcode_table.json, and the tables that name a family's constructor by its operands (R170 to R172).
A constructor is named after its row: `at` marks "the byte at this address" (R180), so `LD (HL),B` is `ld_atHL_B`.
-/

namespace Sys2Proof

/-- The register operands of `R[i]`; index 6, the byte at HL, is no register (R164). -/
inductive Reg8 where
  | B
  | C
  | D
  | E
  | H
  | L
  | A
  deriving DecidableEq, Repr

/-- The pairs of `RP[p]` (R165). -/
inductive Pair where
  | BC
  | DE
  | HL
  | SP
  deriving DecidableEq, Repr

/-- The pairs of `RP2[p]`, for PUSH and POP (R165). -/
inductive StackPair where
  | BC
  | DE
  | HL
  | AF
  deriving DecidableEq, Repr

/-- The conditions of `CC[c]` (R166). -/
inductive Cond where
  | NZ
  | Z
  | NC
  | C
  deriving DecidableEq, Repr

/-- The operations of `ALU[y]` (R167). -/
inductive AluOp where
  | add
  | adc
  | sub
  | sbc
  | and
  | xor
  | or
  | cp
  deriving DecidableEq, Repr

/-- The operations of `ROT[y]` (R167). -/
inductive RotOp where
  | rlc
  | rrc
  | rl
  | rr
  | sla
  | sra
  | swap
  | srl
  deriving DecidableEq, Repr

/-- The eleven illegal primary opcodes (R173). -/
inductive IllegalOp where
  | D3
  | DB
  | DD
  | E3
  | E4
  | EB
  | EC
  | ED
  | F4
  | FC
  | FD
  deriving DecidableEq, Repr

/-- The instructions: one constructor per row of opcode_table.json, those
with operands first (Lean's code generator wants them so), each group in the table's order. `n`, `e` and `nn` are the operand bytes of
R163; `pad` is STOP's padding byte; `op2` of the row PREFIX_CB is the byte the second-level fetch reads (R376). -/
inductive Instr where
  /-- `LD BC,nn`: 0x01 (R230) -/
  | ld_BC_nn (nn : Word)
  /-- `LD B,n`: 0x06 (R201) -/
  | ld_B_n (n : Byte)
  /-- `LD (nn),SP`: 0x08 (R231) -/
  | ld_atnn_SP (nn : Word)
  /-- `LD C,n`: 0x0E (R201) -/
  | ld_C_n (n : Byte)
  /-- `STOP`: 0x10 (R372) -/
  | stop (pad : Byte)
  /-- `LD DE,nn`: 0x11 (R230) -/
  | ld_DE_nn (nn : Word)
  /-- `LD D,n`: 0x16 (R201) -/
  | ld_D_n (n : Byte)
  /-- `JR e`: 0x18 (R354) -/
  | jr_e (e : Byte)
  /-- `LD E,n`: 0x1E (R201) -/
  | ld_E_n (n : Byte)
  /-- `JR NZ,e`: 0x20 (R355) -/
  | jr_NZ_e (e : Byte)
  /-- `LD HL,nn`: 0x21 (R230) -/
  | ld_HL_nn (nn : Word)
  /-- `LD H,n`: 0x26 (R201) -/
  | ld_H_n (n : Byte)
  /-- `JR Z,e`: 0x28 (R355) -/
  | jr_Z_e (e : Byte)
  /-- `LD L,n`: 0x2E (R201) -/
  | ld_L_n (n : Byte)
  /-- `JR NC,e`: 0x30 (R355) -/
  | jr_NC_e (e : Byte)
  /-- `LD SP,nn`: 0x31 (R230) -/
  | ld_SP_nn (nn : Word)
  /-- `LD (HL),n`: 0x36 (R204) -/
  | ld_atHL_n (n : Byte)
  /-- `JR C,e`: 0x38 (R355) -/
  | jr_C_e (e : Byte)
  /-- `LD A,n`: 0x3E (R201) -/
  | ld_A_n (n : Byte)
  /-- `JP NZ,nn`: 0xC2 (R352) -/
  | jp_NZ_nn (nn : Word)
  /-- `JP nn`: 0xC3 (R351) -/
  | jp_nn (nn : Word)
  /-- `CALL NZ,nn`: 0xC4 (R357) -/
  | call_NZ_nn (nn : Word)
  /-- `ADD A,n`: 0xC6 (R255) -/
  | add_A_n (n : Byte)
  /-- `JP Z,nn`: 0xCA (R352) -/
  | jp_Z_nn (nn : Word)
  /-- `PREFIX CB`: 0xCB (R376) -/
  | prefix_CB (op2 : Byte)
  /-- `CALL Z,nn`: 0xCC (R357) -/
  | call_Z_nn (nn : Word)
  /-- `CALL nn`: 0xCD (R356) -/
  | call_nn (nn : Word)
  /-- `ADC A,n`: 0xCE (R258) -/
  | adc_A_n (n : Byte)
  /-- `JP NC,nn`: 0xD2 (R352) -/
  | jp_NC_nn (nn : Word)
  /-- `CALL NC,nn`: 0xD4 (R357) -/
  | call_NC_nn (nn : Word)
  /-- `SUB n`: 0xD6 (R261) -/
  | sub_n (n : Byte)
  /-- `JP C,nn`: 0xDA (R352) -/
  | jp_C_nn (nn : Word)
  /-- `CALL C,nn`: 0xDC (R357) -/
  | call_C_nn (nn : Word)
  /-- `SBC A,n`: 0xDE (R264) -/
  | sbc_A_n (n : Byte)
  /-- `LDH (n),A`: 0xE0 (R212) -/
  | ldh_atn_A (n : Byte)
  /-- `AND n`: 0xE6 (R267) -/
  | and_n (n : Byte)
  /-- `ADD SP,e`: 0xE8 (R303) -/
  | add_SP_e (e : Byte)
  /-- `LD (nn),A`: 0xEA (R210) -/
  | ld_atnn_A (nn : Word)
  /-- `XOR n`: 0xEE (R270) -/
  | xor_n (n : Byte)
  /-- `LDH A,(n)`: 0xF0 (R211) -/
  | ldh_A_atn (n : Byte)
  /-- `OR n`: 0xF6 (R273) -/
  | or_n (n : Byte)
  /-- `LD HL,SP+e`: 0xF8 (R233) -/
  | ld_HL_SPe (e : Byte)
  /-- `LD A,(nn)`: 0xFA (R209) -/
  | ld_A_atnn (nn : Word)
  /-- `CP n`: 0xFE (R276) -/
  | cp_n (n : Byte)
  /-- `NOP`: 0x00 (R370) -/
  | nop
  /-- `LD (BC),A`: 0x02 (R207) -/
  | ld_atBC_A
  /-- `INC BC`: 0x03 (R301) -/
  | inc_BC
  /-- `INC B`: 0x04 (R277) -/
  | inc_B
  /-- `DEC B`: 0x05 (R279) -/
  | dec_B
  /-- `RLCA`: 0x07 (R310) -/
  | rlca
  /-- `ADD HL,BC`: 0x09 (R300) -/
  | add_HL_BC
  /-- `LD A,(BC)`: 0x0A (R205) -/
  | ld_A_atBC
  /-- `DEC BC`: 0x0B (R302) -/
  | dec_BC
  /-- `INC C`: 0x0C (R277) -/
  | inc_C
  /-- `DEC C`: 0x0D (R279) -/
  | dec_C
  /-- `RRCA`: 0x0F (R311) -/
  | rrca
  /-- `LD (DE),A`: 0x12 (R208) -/
  | ld_atDE_A
  /-- `INC DE`: 0x13 (R301) -/
  | inc_DE
  /-- `INC D`: 0x14 (R277) -/
  | inc_D
  /-- `DEC D`: 0x15 (R279) -/
  | dec_D
  /-- `RLA`: 0x17 (R312) -/
  | rla
  /-- `ADD HL,DE`: 0x19 (R300) -/
  | add_HL_DE
  /-- `LD A,(DE)`: 0x1A (R206) -/
  | ld_A_atDE
  /-- `DEC DE`: 0x1B (R302) -/
  | dec_DE
  /-- `INC E`: 0x1C (R277) -/
  | inc_E
  /-- `DEC E`: 0x1D (R279) -/
  | dec_E
  /-- `RRA`: 0x1F (R313) -/
  | rra
  /-- `LD (HL+),A`: 0x22 (R215) -/
  | ld_atHLinc_A
  /-- `INC HL`: 0x23 (R301) -/
  | inc_HL
  /-- `INC H`: 0x24 (R277) -/
  | inc_H
  /-- `DEC H`: 0x25 (R279) -/
  | dec_H
  /-- `DAA`: 0x27 (R281) -/
  | daa
  /-- `ADD HL,HL`: 0x29 (R300) -/
  | add_HL_HL
  /-- `LD A,(HL+)`: 0x2A (R217) -/
  | ld_A_atHLinc
  /-- `DEC HL`: 0x2B (R302) -/
  | dec_HL
  /-- `INC L`: 0x2C (R277) -/
  | inc_L
  /-- `DEC L`: 0x2D (R279) -/
  | dec_L
  /-- `CPL`: 0x2F (R282) -/
  | cpl
  /-- `LD (HL-),A`: 0x32 (R216) -/
  | ld_atHLdec_A
  /-- `INC SP`: 0x33 (R301) -/
  | inc_SP
  /-- `INC (HL)`: 0x34 (R278) -/
  | inc_atHL
  /-- `DEC (HL)`: 0x35 (R280) -/
  | dec_atHL
  /-- `SCF`: 0x37 (R283) -/
  | scf
  /-- `ADD HL,SP`: 0x39 (R300) -/
  | add_HL_SP
  /-- `LD A,(HL-)`: 0x3A (R218) -/
  | ld_A_atHLdec
  /-- `DEC SP`: 0x3B (R302) -/
  | dec_SP
  /-- `INC A`: 0x3C (R277) -/
  | inc_A
  /-- `DEC A`: 0x3D (R279) -/
  | dec_A
  /-- `CCF`: 0x3F (R284) -/
  | ccf
  /-- `LD B,B`: 0x40 (R200) -/
  | ld_B_B
  /-- `LD B,C`: 0x41 (R200) -/
  | ld_B_C
  /-- `LD B,D`: 0x42 (R200) -/
  | ld_B_D
  /-- `LD B,E`: 0x43 (R200) -/
  | ld_B_E
  /-- `LD B,H`: 0x44 (R200) -/
  | ld_B_H
  /-- `LD B,L`: 0x45 (R200) -/
  | ld_B_L
  /-- `LD B,(HL)`: 0x46 (R202) -/
  | ld_B_atHL
  /-- `LD B,A`: 0x47 (R200) -/
  | ld_B_A
  /-- `LD C,B`: 0x48 (R200) -/
  | ld_C_B
  /-- `LD C,C`: 0x49 (R200) -/
  | ld_C_C
  /-- `LD C,D`: 0x4A (R200) -/
  | ld_C_D
  /-- `LD C,E`: 0x4B (R200) -/
  | ld_C_E
  /-- `LD C,H`: 0x4C (R200) -/
  | ld_C_H
  /-- `LD C,L`: 0x4D (R200) -/
  | ld_C_L
  /-- `LD C,(HL)`: 0x4E (R202) -/
  | ld_C_atHL
  /-- `LD C,A`: 0x4F (R200) -/
  | ld_C_A
  /-- `LD D,B`: 0x50 (R200) -/
  | ld_D_B
  /-- `LD D,C`: 0x51 (R200) -/
  | ld_D_C
  /-- `LD D,D`: 0x52 (R200) -/
  | ld_D_D
  /-- `LD D,E`: 0x53 (R200) -/
  | ld_D_E
  /-- `LD D,H`: 0x54 (R200) -/
  | ld_D_H
  /-- `LD D,L`: 0x55 (R200) -/
  | ld_D_L
  /-- `LD D,(HL)`: 0x56 (R202) -/
  | ld_D_atHL
  /-- `LD D,A`: 0x57 (R200) -/
  | ld_D_A
  /-- `LD E,B`: 0x58 (R200) -/
  | ld_E_B
  /-- `LD E,C`: 0x59 (R200) -/
  | ld_E_C
  /-- `LD E,D`: 0x5A (R200) -/
  | ld_E_D
  /-- `LD E,E`: 0x5B (R200) -/
  | ld_E_E
  /-- `LD E,H`: 0x5C (R200) -/
  | ld_E_H
  /-- `LD E,L`: 0x5D (R200) -/
  | ld_E_L
  /-- `LD E,(HL)`: 0x5E (R202) -/
  | ld_E_atHL
  /-- `LD E,A`: 0x5F (R200) -/
  | ld_E_A
  /-- `LD H,B`: 0x60 (R200) -/
  | ld_H_B
  /-- `LD H,C`: 0x61 (R200) -/
  | ld_H_C
  /-- `LD H,D`: 0x62 (R200) -/
  | ld_H_D
  /-- `LD H,E`: 0x63 (R200) -/
  | ld_H_E
  /-- `LD H,H`: 0x64 (R200) -/
  | ld_H_H
  /-- `LD H,L`: 0x65 (R200) -/
  | ld_H_L
  /-- `LD H,(HL)`: 0x66 (R202) -/
  | ld_H_atHL
  /-- `LD H,A`: 0x67 (R200) -/
  | ld_H_A
  /-- `LD L,B`: 0x68 (R200) -/
  | ld_L_B
  /-- `LD L,C`: 0x69 (R200) -/
  | ld_L_C
  /-- `LD L,D`: 0x6A (R200) -/
  | ld_L_D
  /-- `LD L,E`: 0x6B (R200) -/
  | ld_L_E
  /-- `LD L,H`: 0x6C (R200) -/
  | ld_L_H
  /-- `LD L,L`: 0x6D (R200) -/
  | ld_L_L
  /-- `LD L,(HL)`: 0x6E (R202) -/
  | ld_L_atHL
  /-- `LD L,A`: 0x6F (R200) -/
  | ld_L_A
  /-- `LD (HL),B`: 0x70 (R203) -/
  | ld_atHL_B
  /-- `LD (HL),C`: 0x71 (R203) -/
  | ld_atHL_C
  /-- `LD (HL),D`: 0x72 (R203) -/
  | ld_atHL_D
  /-- `LD (HL),E`: 0x73 (R203) -/
  | ld_atHL_E
  /-- `LD (HL),H`: 0x74 (R203) -/
  | ld_atHL_H
  /-- `LD (HL),L`: 0x75 (R203) -/
  | ld_atHL_L
  /-- `HALT`: 0x76 (R371) -/
  | halt
  /-- `LD (HL),A`: 0x77 (R203) -/
  | ld_atHL_A
  /-- `LD A,B`: 0x78 (R200) -/
  | ld_A_B
  /-- `LD A,C`: 0x79 (R200) -/
  | ld_A_C
  /-- `LD A,D`: 0x7A (R200) -/
  | ld_A_D
  /-- `LD A,E`: 0x7B (R200) -/
  | ld_A_E
  /-- `LD A,H`: 0x7C (R200) -/
  | ld_A_H
  /-- `LD A,L`: 0x7D (R200) -/
  | ld_A_L
  /-- `LD A,(HL)`: 0x7E (R202) -/
  | ld_A_atHL
  /-- `LD A,A`: 0x7F (R200) -/
  | ld_A_A
  /-- `ADD A,B`: 0x80 (R253) -/
  | add_A_B
  /-- `ADD A,C`: 0x81 (R253) -/
  | add_A_C
  /-- `ADD A,D`: 0x82 (R253) -/
  | add_A_D
  /-- `ADD A,E`: 0x83 (R253) -/
  | add_A_E
  /-- `ADD A,H`: 0x84 (R253) -/
  | add_A_H
  /-- `ADD A,L`: 0x85 (R253) -/
  | add_A_L
  /-- `ADD A,(HL)`: 0x86 (R254) -/
  | add_A_atHL
  /-- `ADD A,A`: 0x87 (R253) -/
  | add_A_A
  /-- `ADC A,B`: 0x88 (R256) -/
  | adc_A_B
  /-- `ADC A,C`: 0x89 (R256) -/
  | adc_A_C
  /-- `ADC A,D`: 0x8A (R256) -/
  | adc_A_D
  /-- `ADC A,E`: 0x8B (R256) -/
  | adc_A_E
  /-- `ADC A,H`: 0x8C (R256) -/
  | adc_A_H
  /-- `ADC A,L`: 0x8D (R256) -/
  | adc_A_L
  /-- `ADC A,(HL)`: 0x8E (R257) -/
  | adc_A_atHL
  /-- `ADC A,A`: 0x8F (R256) -/
  | adc_A_A
  /-- `SUB B`: 0x90 (R259) -/
  | sub_B
  /-- `SUB C`: 0x91 (R259) -/
  | sub_C
  /-- `SUB D`: 0x92 (R259) -/
  | sub_D
  /-- `SUB E`: 0x93 (R259) -/
  | sub_E
  /-- `SUB H`: 0x94 (R259) -/
  | sub_H
  /-- `SUB L`: 0x95 (R259) -/
  | sub_L
  /-- `SUB (HL)`: 0x96 (R260) -/
  | sub_atHL
  /-- `SUB A`: 0x97 (R259) -/
  | sub_A
  /-- `SBC A,B`: 0x98 (R262) -/
  | sbc_A_B
  /-- `SBC A,C`: 0x99 (R262) -/
  | sbc_A_C
  /-- `SBC A,D`: 0x9A (R262) -/
  | sbc_A_D
  /-- `SBC A,E`: 0x9B (R262) -/
  | sbc_A_E
  /-- `SBC A,H`: 0x9C (R262) -/
  | sbc_A_H
  /-- `SBC A,L`: 0x9D (R262) -/
  | sbc_A_L
  /-- `SBC A,(HL)`: 0x9E (R263) -/
  | sbc_A_atHL
  /-- `SBC A,A`: 0x9F (R262) -/
  | sbc_A_A
  /-- `AND B`: 0xA0 (R265) -/
  | and_B
  /-- `AND C`: 0xA1 (R265) -/
  | and_C
  /-- `AND D`: 0xA2 (R265) -/
  | and_D
  /-- `AND E`: 0xA3 (R265) -/
  | and_E
  /-- `AND H`: 0xA4 (R265) -/
  | and_H
  /-- `AND L`: 0xA5 (R265) -/
  | and_L
  /-- `AND (HL)`: 0xA6 (R266) -/
  | and_atHL
  /-- `AND A`: 0xA7 (R265) -/
  | and_A
  /-- `XOR B`: 0xA8 (R268) -/
  | xor_B
  /-- `XOR C`: 0xA9 (R268) -/
  | xor_C
  /-- `XOR D`: 0xAA (R268) -/
  | xor_D
  /-- `XOR E`: 0xAB (R268) -/
  | xor_E
  /-- `XOR H`: 0xAC (R268) -/
  | xor_H
  /-- `XOR L`: 0xAD (R268) -/
  | xor_L
  /-- `XOR (HL)`: 0xAE (R269) -/
  | xor_atHL
  /-- `XOR A`: 0xAF (R268) -/
  | xor_A
  /-- `OR B`: 0xB0 (R271) -/
  | or_B
  /-- `OR C`: 0xB1 (R271) -/
  | or_C
  /-- `OR D`: 0xB2 (R271) -/
  | or_D
  /-- `OR E`: 0xB3 (R271) -/
  | or_E
  /-- `OR H`: 0xB4 (R271) -/
  | or_H
  /-- `OR L`: 0xB5 (R271) -/
  | or_L
  /-- `OR (HL)`: 0xB6 (R272) -/
  | or_atHL
  /-- `OR A`: 0xB7 (R271) -/
  | or_A
  /-- `CP B`: 0xB8 (R274) -/
  | cp_B
  /-- `CP C`: 0xB9 (R274) -/
  | cp_C
  /-- `CP D`: 0xBA (R274) -/
  | cp_D
  /-- `CP E`: 0xBB (R274) -/
  | cp_E
  /-- `CP H`: 0xBC (R274) -/
  | cp_H
  /-- `CP L`: 0xBD (R274) -/
  | cp_L
  /-- `CP (HL)`: 0xBE (R275) -/
  | cp_atHL
  /-- `CP A`: 0xBF (R274) -/
  | cp_A
  /-- `RET NZ`: 0xC0 (R359) -/
  | ret_NZ
  /-- `POP BC`: 0xC1 (R237) -/
  | pop_BC
  /-- `PUSH BC`: 0xC5 (R236) -/
  | push_BC
  /-- `RST 0x00`: 0xC7 (R362) -/
  | rst_00
  /-- `RET Z`: 0xC8 (R359) -/
  | ret_Z
  /-- `RET`: 0xC9 (R358) -/
  | ret
  /-- `RST 0x08`: 0xCF (R362) -/
  | rst_08
  /-- `RET NC`: 0xD0 (R359) -/
  | ret_NC
  /-- `POP DE`: 0xD1 (R237) -/
  | pop_DE
  /-- `ILLEGAL_D3`: 0xD3 (R377) -/
  | illegal_D3
  /-- `PUSH DE`: 0xD5 (R236) -/
  | push_DE
  /-- `RST 0x10`: 0xD7 (R362) -/
  | rst_10
  /-- `RET C`: 0xD8 (R359) -/
  | ret_C
  /-- `RETI`: 0xD9 (R361) -/
  | reti
  /-- `ILLEGAL_DB`: 0xDB (R377) -/
  | illegal_DB
  /-- `ILLEGAL_DD`: 0xDD (R377) -/
  | illegal_DD
  /-- `RST 0x18`: 0xDF (R362) -/
  | rst_18
  /-- `POP HL`: 0xE1 (R237) -/
  | pop_HL
  /-- `LDH (C),A`: 0xE2 (R214) -/
  | ldh_atC_A
  /-- `ILLEGAL_E3`: 0xE3 (R377) -/
  | illegal_E3
  /-- `ILLEGAL_E4`: 0xE4 (R377) -/
  | illegal_E4
  /-- `PUSH HL`: 0xE5 (R236) -/
  | push_HL
  /-- `RST 0x20`: 0xE7 (R362) -/
  | rst_20
  /-- `JP HL`: 0xE9 (R353) -/
  | jp_HL
  /-- `ILLEGAL_EB`: 0xEB (R377) -/
  | illegal_EB
  /-- `ILLEGAL_EC`: 0xEC (R377) -/
  | illegal_EC
  /-- `ILLEGAL_ED`: 0xED (R377) -/
  | illegal_ED
  /-- `RST 0x28`: 0xEF (R362) -/
  | rst_28
  /-- `POP AF`: 0xF1 (R238) -/
  | pop_AF
  /-- `LDH A,(C)`: 0xF2 (R213) -/
  | ldh_A_atC
  /-- `DI`: 0xF3 (R374) -/
  | di
  /-- `ILLEGAL_F4`: 0xF4 (R377) -/
  | illegal_F4
  /-- `PUSH AF`: 0xF5 (R236) -/
  | push_AF
  /-- `RST 0x30`: 0xF7 (R362) -/
  | rst_30
  /-- `LD SP,HL`: 0xF9 (R232) -/
  | ld_SP_HL
  /-- `EI`: 0xFB (R375) -/
  | ei
  /-- `ILLEGAL_FC`: 0xFC (R377) -/
  | illegal_FC
  /-- `ILLEGAL_FD`: 0xFD (R377) -/
  | illegal_FD
  /-- `RST 0x38`: 0xFF (R362) -/
  | rst_38
  /-- `RLC B`: 0xCB 0x00 (R315) -/
  | rlc_B
  /-- `RLC C`: 0xCB 0x01 (R315) -/
  | rlc_C
  /-- `RLC D`: 0xCB 0x02 (R315) -/
  | rlc_D
  /-- `RLC E`: 0xCB 0x03 (R315) -/
  | rlc_E
  /-- `RLC H`: 0xCB 0x04 (R315) -/
  | rlc_H
  /-- `RLC L`: 0xCB 0x05 (R315) -/
  | rlc_L
  /-- `RLC (HL)`: 0xCB 0x06 (R316) -/
  | rlc_atHL
  /-- `RLC A`: 0xCB 0x07 (R315) -/
  | rlc_A
  /-- `RRC B`: 0xCB 0x08 (R317) -/
  | rrc_B
  /-- `RRC C`: 0xCB 0x09 (R317) -/
  | rrc_C
  /-- `RRC D`: 0xCB 0x0A (R317) -/
  | rrc_D
  /-- `RRC E`: 0xCB 0x0B (R317) -/
  | rrc_E
  /-- `RRC H`: 0xCB 0x0C (R317) -/
  | rrc_H
  /-- `RRC L`: 0xCB 0x0D (R317) -/
  | rrc_L
  /-- `RRC (HL)`: 0xCB 0x0E (R318) -/
  | rrc_atHL
  /-- `RRC A`: 0xCB 0x0F (R317) -/
  | rrc_A
  /-- `RL B`: 0xCB 0x10 (R319) -/
  | rl_B
  /-- `RL C`: 0xCB 0x11 (R319) -/
  | rl_C
  /-- `RL D`: 0xCB 0x12 (R319) -/
  | rl_D
  /-- `RL E`: 0xCB 0x13 (R319) -/
  | rl_E
  /-- `RL H`: 0xCB 0x14 (R319) -/
  | rl_H
  /-- `RL L`: 0xCB 0x15 (R319) -/
  | rl_L
  /-- `RL (HL)`: 0xCB 0x16 (R320) -/
  | rl_atHL
  /-- `RL A`: 0xCB 0x17 (R319) -/
  | rl_A
  /-- `RR B`: 0xCB 0x18 (R321) -/
  | rr_B
  /-- `RR C`: 0xCB 0x19 (R321) -/
  | rr_C
  /-- `RR D`: 0xCB 0x1A (R321) -/
  | rr_D
  /-- `RR E`: 0xCB 0x1B (R321) -/
  | rr_E
  /-- `RR H`: 0xCB 0x1C (R321) -/
  | rr_H
  /-- `RR L`: 0xCB 0x1D (R321) -/
  | rr_L
  /-- `RR (HL)`: 0xCB 0x1E (R322) -/
  | rr_atHL
  /-- `RR A`: 0xCB 0x1F (R321) -/
  | rr_A
  /-- `SLA B`: 0xCB 0x20 (R323) -/
  | sla_B
  /-- `SLA C`: 0xCB 0x21 (R323) -/
  | sla_C
  /-- `SLA D`: 0xCB 0x22 (R323) -/
  | sla_D
  /-- `SLA E`: 0xCB 0x23 (R323) -/
  | sla_E
  /-- `SLA H`: 0xCB 0x24 (R323) -/
  | sla_H
  /-- `SLA L`: 0xCB 0x25 (R323) -/
  | sla_L
  /-- `SLA (HL)`: 0xCB 0x26 (R324) -/
  | sla_atHL
  /-- `SLA A`: 0xCB 0x27 (R323) -/
  | sla_A
  /-- `SRA B`: 0xCB 0x28 (R325) -/
  | sra_B
  /-- `SRA C`: 0xCB 0x29 (R325) -/
  | sra_C
  /-- `SRA D`: 0xCB 0x2A (R325) -/
  | sra_D
  /-- `SRA E`: 0xCB 0x2B (R325) -/
  | sra_E
  /-- `SRA H`: 0xCB 0x2C (R325) -/
  | sra_H
  /-- `SRA L`: 0xCB 0x2D (R325) -/
  | sra_L
  /-- `SRA (HL)`: 0xCB 0x2E (R326) -/
  | sra_atHL
  /-- `SRA A`: 0xCB 0x2F (R325) -/
  | sra_A
  /-- `SWAP B`: 0xCB 0x30 (R327) -/
  | swap_B
  /-- `SWAP C`: 0xCB 0x31 (R327) -/
  | swap_C
  /-- `SWAP D`: 0xCB 0x32 (R327) -/
  | swap_D
  /-- `SWAP E`: 0xCB 0x33 (R327) -/
  | swap_E
  /-- `SWAP H`: 0xCB 0x34 (R327) -/
  | swap_H
  /-- `SWAP L`: 0xCB 0x35 (R327) -/
  | swap_L
  /-- `SWAP (HL)`: 0xCB 0x36 (R328) -/
  | swap_atHL
  /-- `SWAP A`: 0xCB 0x37 (R327) -/
  | swap_A
  /-- `SRL B`: 0xCB 0x38 (R329) -/
  | srl_B
  /-- `SRL C`: 0xCB 0x39 (R329) -/
  | srl_C
  /-- `SRL D`: 0xCB 0x3A (R329) -/
  | srl_D
  /-- `SRL E`: 0xCB 0x3B (R329) -/
  | srl_E
  /-- `SRL H`: 0xCB 0x3C (R329) -/
  | srl_H
  /-- `SRL L`: 0xCB 0x3D (R329) -/
  | srl_L
  /-- `SRL (HL)`: 0xCB 0x3E (R330) -/
  | srl_atHL
  /-- `SRL A`: 0xCB 0x3F (R329) -/
  | srl_A
  /-- `BIT 0,B`: 0xCB 0x40 (R331) -/
  | bit_0_B
  /-- `BIT 0,C`: 0xCB 0x41 (R331) -/
  | bit_0_C
  /-- `BIT 0,D`: 0xCB 0x42 (R331) -/
  | bit_0_D
  /-- `BIT 0,E`: 0xCB 0x43 (R331) -/
  | bit_0_E
  /-- `BIT 0,H`: 0xCB 0x44 (R331) -/
  | bit_0_H
  /-- `BIT 0,L`: 0xCB 0x45 (R331) -/
  | bit_0_L
  /-- `BIT 0,(HL)`: 0xCB 0x46 (R332) -/
  | bit_0_atHL
  /-- `BIT 0,A`: 0xCB 0x47 (R331) -/
  | bit_0_A
  /-- `BIT 1,B`: 0xCB 0x48 (R331) -/
  | bit_1_B
  /-- `BIT 1,C`: 0xCB 0x49 (R331) -/
  | bit_1_C
  /-- `BIT 1,D`: 0xCB 0x4A (R331) -/
  | bit_1_D
  /-- `BIT 1,E`: 0xCB 0x4B (R331) -/
  | bit_1_E
  /-- `BIT 1,H`: 0xCB 0x4C (R331) -/
  | bit_1_H
  /-- `BIT 1,L`: 0xCB 0x4D (R331) -/
  | bit_1_L
  /-- `BIT 1,(HL)`: 0xCB 0x4E (R332) -/
  | bit_1_atHL
  /-- `BIT 1,A`: 0xCB 0x4F (R331) -/
  | bit_1_A
  /-- `BIT 2,B`: 0xCB 0x50 (R331) -/
  | bit_2_B
  /-- `BIT 2,C`: 0xCB 0x51 (R331) -/
  | bit_2_C
  /-- `BIT 2,D`: 0xCB 0x52 (R331) -/
  | bit_2_D
  /-- `BIT 2,E`: 0xCB 0x53 (R331) -/
  | bit_2_E
  /-- `BIT 2,H`: 0xCB 0x54 (R331) -/
  | bit_2_H
  /-- `BIT 2,L`: 0xCB 0x55 (R331) -/
  | bit_2_L
  /-- `BIT 2,(HL)`: 0xCB 0x56 (R332) -/
  | bit_2_atHL
  /-- `BIT 2,A`: 0xCB 0x57 (R331) -/
  | bit_2_A
  /-- `BIT 3,B`: 0xCB 0x58 (R331) -/
  | bit_3_B
  /-- `BIT 3,C`: 0xCB 0x59 (R331) -/
  | bit_3_C
  /-- `BIT 3,D`: 0xCB 0x5A (R331) -/
  | bit_3_D
  /-- `BIT 3,E`: 0xCB 0x5B (R331) -/
  | bit_3_E
  /-- `BIT 3,H`: 0xCB 0x5C (R331) -/
  | bit_3_H
  /-- `BIT 3,L`: 0xCB 0x5D (R331) -/
  | bit_3_L
  /-- `BIT 3,(HL)`: 0xCB 0x5E (R332) -/
  | bit_3_atHL
  /-- `BIT 3,A`: 0xCB 0x5F (R331) -/
  | bit_3_A
  /-- `BIT 4,B`: 0xCB 0x60 (R331) -/
  | bit_4_B
  /-- `BIT 4,C`: 0xCB 0x61 (R331) -/
  | bit_4_C
  /-- `BIT 4,D`: 0xCB 0x62 (R331) -/
  | bit_4_D
  /-- `BIT 4,E`: 0xCB 0x63 (R331) -/
  | bit_4_E
  /-- `BIT 4,H`: 0xCB 0x64 (R331) -/
  | bit_4_H
  /-- `BIT 4,L`: 0xCB 0x65 (R331) -/
  | bit_4_L
  /-- `BIT 4,(HL)`: 0xCB 0x66 (R332) -/
  | bit_4_atHL
  /-- `BIT 4,A`: 0xCB 0x67 (R331) -/
  | bit_4_A
  /-- `BIT 5,B`: 0xCB 0x68 (R331) -/
  | bit_5_B
  /-- `BIT 5,C`: 0xCB 0x69 (R331) -/
  | bit_5_C
  /-- `BIT 5,D`: 0xCB 0x6A (R331) -/
  | bit_5_D
  /-- `BIT 5,E`: 0xCB 0x6B (R331) -/
  | bit_5_E
  /-- `BIT 5,H`: 0xCB 0x6C (R331) -/
  | bit_5_H
  /-- `BIT 5,L`: 0xCB 0x6D (R331) -/
  | bit_5_L
  /-- `BIT 5,(HL)`: 0xCB 0x6E (R332) -/
  | bit_5_atHL
  /-- `BIT 5,A`: 0xCB 0x6F (R331) -/
  | bit_5_A
  /-- `BIT 6,B`: 0xCB 0x70 (R331) -/
  | bit_6_B
  /-- `BIT 6,C`: 0xCB 0x71 (R331) -/
  | bit_6_C
  /-- `BIT 6,D`: 0xCB 0x72 (R331) -/
  | bit_6_D
  /-- `BIT 6,E`: 0xCB 0x73 (R331) -/
  | bit_6_E
  /-- `BIT 6,H`: 0xCB 0x74 (R331) -/
  | bit_6_H
  /-- `BIT 6,L`: 0xCB 0x75 (R331) -/
  | bit_6_L
  /-- `BIT 6,(HL)`: 0xCB 0x76 (R332) -/
  | bit_6_atHL
  /-- `BIT 6,A`: 0xCB 0x77 (R331) -/
  | bit_6_A
  /-- `BIT 7,B`: 0xCB 0x78 (R331) -/
  | bit_7_B
  /-- `BIT 7,C`: 0xCB 0x79 (R331) -/
  | bit_7_C
  /-- `BIT 7,D`: 0xCB 0x7A (R331) -/
  | bit_7_D
  /-- `BIT 7,E`: 0xCB 0x7B (R331) -/
  | bit_7_E
  /-- `BIT 7,H`: 0xCB 0x7C (R331) -/
  | bit_7_H
  /-- `BIT 7,L`: 0xCB 0x7D (R331) -/
  | bit_7_L
  /-- `BIT 7,(HL)`: 0xCB 0x7E (R332) -/
  | bit_7_atHL
  /-- `BIT 7,A`: 0xCB 0x7F (R331) -/
  | bit_7_A
  /-- `RES 0,B`: 0xCB 0x80 (R333) -/
  | res_0_B
  /-- `RES 0,C`: 0xCB 0x81 (R333) -/
  | res_0_C
  /-- `RES 0,D`: 0xCB 0x82 (R333) -/
  | res_0_D
  /-- `RES 0,E`: 0xCB 0x83 (R333) -/
  | res_0_E
  /-- `RES 0,H`: 0xCB 0x84 (R333) -/
  | res_0_H
  /-- `RES 0,L`: 0xCB 0x85 (R333) -/
  | res_0_L
  /-- `RES 0,(HL)`: 0xCB 0x86 (R334) -/
  | res_0_atHL
  /-- `RES 0,A`: 0xCB 0x87 (R333) -/
  | res_0_A
  /-- `RES 1,B`: 0xCB 0x88 (R333) -/
  | res_1_B
  /-- `RES 1,C`: 0xCB 0x89 (R333) -/
  | res_1_C
  /-- `RES 1,D`: 0xCB 0x8A (R333) -/
  | res_1_D
  /-- `RES 1,E`: 0xCB 0x8B (R333) -/
  | res_1_E
  /-- `RES 1,H`: 0xCB 0x8C (R333) -/
  | res_1_H
  /-- `RES 1,L`: 0xCB 0x8D (R333) -/
  | res_1_L
  /-- `RES 1,(HL)`: 0xCB 0x8E (R334) -/
  | res_1_atHL
  /-- `RES 1,A`: 0xCB 0x8F (R333) -/
  | res_1_A
  /-- `RES 2,B`: 0xCB 0x90 (R333) -/
  | res_2_B
  /-- `RES 2,C`: 0xCB 0x91 (R333) -/
  | res_2_C
  /-- `RES 2,D`: 0xCB 0x92 (R333) -/
  | res_2_D
  /-- `RES 2,E`: 0xCB 0x93 (R333) -/
  | res_2_E
  /-- `RES 2,H`: 0xCB 0x94 (R333) -/
  | res_2_H
  /-- `RES 2,L`: 0xCB 0x95 (R333) -/
  | res_2_L
  /-- `RES 2,(HL)`: 0xCB 0x96 (R334) -/
  | res_2_atHL
  /-- `RES 2,A`: 0xCB 0x97 (R333) -/
  | res_2_A
  /-- `RES 3,B`: 0xCB 0x98 (R333) -/
  | res_3_B
  /-- `RES 3,C`: 0xCB 0x99 (R333) -/
  | res_3_C
  /-- `RES 3,D`: 0xCB 0x9A (R333) -/
  | res_3_D
  /-- `RES 3,E`: 0xCB 0x9B (R333) -/
  | res_3_E
  /-- `RES 3,H`: 0xCB 0x9C (R333) -/
  | res_3_H
  /-- `RES 3,L`: 0xCB 0x9D (R333) -/
  | res_3_L
  /-- `RES 3,(HL)`: 0xCB 0x9E (R334) -/
  | res_3_atHL
  /-- `RES 3,A`: 0xCB 0x9F (R333) -/
  | res_3_A
  /-- `RES 4,B`: 0xCB 0xA0 (R333) -/
  | res_4_B
  /-- `RES 4,C`: 0xCB 0xA1 (R333) -/
  | res_4_C
  /-- `RES 4,D`: 0xCB 0xA2 (R333) -/
  | res_4_D
  /-- `RES 4,E`: 0xCB 0xA3 (R333) -/
  | res_4_E
  /-- `RES 4,H`: 0xCB 0xA4 (R333) -/
  | res_4_H
  /-- `RES 4,L`: 0xCB 0xA5 (R333) -/
  | res_4_L
  /-- `RES 4,(HL)`: 0xCB 0xA6 (R334) -/
  | res_4_atHL
  /-- `RES 4,A`: 0xCB 0xA7 (R333) -/
  | res_4_A
  /-- `RES 5,B`: 0xCB 0xA8 (R333) -/
  | res_5_B
  /-- `RES 5,C`: 0xCB 0xA9 (R333) -/
  | res_5_C
  /-- `RES 5,D`: 0xCB 0xAA (R333) -/
  | res_5_D
  /-- `RES 5,E`: 0xCB 0xAB (R333) -/
  | res_5_E
  /-- `RES 5,H`: 0xCB 0xAC (R333) -/
  | res_5_H
  /-- `RES 5,L`: 0xCB 0xAD (R333) -/
  | res_5_L
  /-- `RES 5,(HL)`: 0xCB 0xAE (R334) -/
  | res_5_atHL
  /-- `RES 5,A`: 0xCB 0xAF (R333) -/
  | res_5_A
  /-- `RES 6,B`: 0xCB 0xB0 (R333) -/
  | res_6_B
  /-- `RES 6,C`: 0xCB 0xB1 (R333) -/
  | res_6_C
  /-- `RES 6,D`: 0xCB 0xB2 (R333) -/
  | res_6_D
  /-- `RES 6,E`: 0xCB 0xB3 (R333) -/
  | res_6_E
  /-- `RES 6,H`: 0xCB 0xB4 (R333) -/
  | res_6_H
  /-- `RES 6,L`: 0xCB 0xB5 (R333) -/
  | res_6_L
  /-- `RES 6,(HL)`: 0xCB 0xB6 (R334) -/
  | res_6_atHL
  /-- `RES 6,A`: 0xCB 0xB7 (R333) -/
  | res_6_A
  /-- `RES 7,B`: 0xCB 0xB8 (R333) -/
  | res_7_B
  /-- `RES 7,C`: 0xCB 0xB9 (R333) -/
  | res_7_C
  /-- `RES 7,D`: 0xCB 0xBA (R333) -/
  | res_7_D
  /-- `RES 7,E`: 0xCB 0xBB (R333) -/
  | res_7_E
  /-- `RES 7,H`: 0xCB 0xBC (R333) -/
  | res_7_H
  /-- `RES 7,L`: 0xCB 0xBD (R333) -/
  | res_7_L
  /-- `RES 7,(HL)`: 0xCB 0xBE (R334) -/
  | res_7_atHL
  /-- `RES 7,A`: 0xCB 0xBF (R333) -/
  | res_7_A
  /-- `SET 0,B`: 0xCB 0xC0 (R335) -/
  | set_0_B
  /-- `SET 0,C`: 0xCB 0xC1 (R335) -/
  | set_0_C
  /-- `SET 0,D`: 0xCB 0xC2 (R335) -/
  | set_0_D
  /-- `SET 0,E`: 0xCB 0xC3 (R335) -/
  | set_0_E
  /-- `SET 0,H`: 0xCB 0xC4 (R335) -/
  | set_0_H
  /-- `SET 0,L`: 0xCB 0xC5 (R335) -/
  | set_0_L
  /-- `SET 0,(HL)`: 0xCB 0xC6 (R336) -/
  | set_0_atHL
  /-- `SET 0,A`: 0xCB 0xC7 (R335) -/
  | set_0_A
  /-- `SET 1,B`: 0xCB 0xC8 (R335) -/
  | set_1_B
  /-- `SET 1,C`: 0xCB 0xC9 (R335) -/
  | set_1_C
  /-- `SET 1,D`: 0xCB 0xCA (R335) -/
  | set_1_D
  /-- `SET 1,E`: 0xCB 0xCB (R335) -/
  | set_1_E
  /-- `SET 1,H`: 0xCB 0xCC (R335) -/
  | set_1_H
  /-- `SET 1,L`: 0xCB 0xCD (R335) -/
  | set_1_L
  /-- `SET 1,(HL)`: 0xCB 0xCE (R336) -/
  | set_1_atHL
  /-- `SET 1,A`: 0xCB 0xCF (R335) -/
  | set_1_A
  /-- `SET 2,B`: 0xCB 0xD0 (R335) -/
  | set_2_B
  /-- `SET 2,C`: 0xCB 0xD1 (R335) -/
  | set_2_C
  /-- `SET 2,D`: 0xCB 0xD2 (R335) -/
  | set_2_D
  /-- `SET 2,E`: 0xCB 0xD3 (R335) -/
  | set_2_E
  /-- `SET 2,H`: 0xCB 0xD4 (R335) -/
  | set_2_H
  /-- `SET 2,L`: 0xCB 0xD5 (R335) -/
  | set_2_L
  /-- `SET 2,(HL)`: 0xCB 0xD6 (R336) -/
  | set_2_atHL
  /-- `SET 2,A`: 0xCB 0xD7 (R335) -/
  | set_2_A
  /-- `SET 3,B`: 0xCB 0xD8 (R335) -/
  | set_3_B
  /-- `SET 3,C`: 0xCB 0xD9 (R335) -/
  | set_3_C
  /-- `SET 3,D`: 0xCB 0xDA (R335) -/
  | set_3_D
  /-- `SET 3,E`: 0xCB 0xDB (R335) -/
  | set_3_E
  /-- `SET 3,H`: 0xCB 0xDC (R335) -/
  | set_3_H
  /-- `SET 3,L`: 0xCB 0xDD (R335) -/
  | set_3_L
  /-- `SET 3,(HL)`: 0xCB 0xDE (R336) -/
  | set_3_atHL
  /-- `SET 3,A`: 0xCB 0xDF (R335) -/
  | set_3_A
  /-- `SET 4,B`: 0xCB 0xE0 (R335) -/
  | set_4_B
  /-- `SET 4,C`: 0xCB 0xE1 (R335) -/
  | set_4_C
  /-- `SET 4,D`: 0xCB 0xE2 (R335) -/
  | set_4_D
  /-- `SET 4,E`: 0xCB 0xE3 (R335) -/
  | set_4_E
  /-- `SET 4,H`: 0xCB 0xE4 (R335) -/
  | set_4_H
  /-- `SET 4,L`: 0xCB 0xE5 (R335) -/
  | set_4_L
  /-- `SET 4,(HL)`: 0xCB 0xE6 (R336) -/
  | set_4_atHL
  /-- `SET 4,A`: 0xCB 0xE7 (R335) -/
  | set_4_A
  /-- `SET 5,B`: 0xCB 0xE8 (R335) -/
  | set_5_B
  /-- `SET 5,C`: 0xCB 0xE9 (R335) -/
  | set_5_C
  /-- `SET 5,D`: 0xCB 0xEA (R335) -/
  | set_5_D
  /-- `SET 5,E`: 0xCB 0xEB (R335) -/
  | set_5_E
  /-- `SET 5,H`: 0xCB 0xEC (R335) -/
  | set_5_H
  /-- `SET 5,L`: 0xCB 0xED (R335) -/
  | set_5_L
  /-- `SET 5,(HL)`: 0xCB 0xEE (R336) -/
  | set_5_atHL
  /-- `SET 5,A`: 0xCB 0xEF (R335) -/
  | set_5_A
  /-- `SET 6,B`: 0xCB 0xF0 (R335) -/
  | set_6_B
  /-- `SET 6,C`: 0xCB 0xF1 (R335) -/
  | set_6_C
  /-- `SET 6,D`: 0xCB 0xF2 (R335) -/
  | set_6_D
  /-- `SET 6,E`: 0xCB 0xF3 (R335) -/
  | set_6_E
  /-- `SET 6,H`: 0xCB 0xF4 (R335) -/
  | set_6_H
  /-- `SET 6,L`: 0xCB 0xF5 (R335) -/
  | set_6_L
  /-- `SET 6,(HL)`: 0xCB 0xF6 (R336) -/
  | set_6_atHL
  /-- `SET 6,A`: 0xCB 0xF7 (R335) -/
  | set_6_A
  /-- `SET 7,B`: 0xCB 0xF8 (R335) -/
  | set_7_B
  /-- `SET 7,C`: 0xCB 0xF9 (R335) -/
  | set_7_C
  /-- `SET 7,D`: 0xCB 0xFA (R335) -/
  | set_7_D
  /-- `SET 7,E`: 0xCB 0xFB (R335) -/
  | set_7_E
  /-- `SET 7,H`: 0xCB 0xFC (R335) -/
  | set_7_H
  /-- `SET 7,L`: 0xCB 0xFD (R335) -/
  | set_7_L
  /-- `SET 7,(HL)`: 0xCB 0xFE (R336) -/
  | set_7_atHL
  /-- `SET 7,A`: 0xCB 0xFF (R335) -/
  | set_7_A
  deriving DecidableEq, Repr

/-- `LD r,r'` (R200). -/
def Instr.ldRegReg (d : Reg8) (r : Reg8) : Instr :=
  match d, r with
  | .B, .B => .ld_B_B
  | .B, .C => .ld_B_C
  | .B, .D => .ld_B_D
  | .B, .E => .ld_B_E
  | .B, .H => .ld_B_H
  | .B, .L => .ld_B_L
  | .B, .A => .ld_B_A
  | .C, .B => .ld_C_B
  | .C, .C => .ld_C_C
  | .C, .D => .ld_C_D
  | .C, .E => .ld_C_E
  | .C, .H => .ld_C_H
  | .C, .L => .ld_C_L
  | .C, .A => .ld_C_A
  | .D, .B => .ld_D_B
  | .D, .C => .ld_D_C
  | .D, .D => .ld_D_D
  | .D, .E => .ld_D_E
  | .D, .H => .ld_D_H
  | .D, .L => .ld_D_L
  | .D, .A => .ld_D_A
  | .E, .B => .ld_E_B
  | .E, .C => .ld_E_C
  | .E, .D => .ld_E_D
  | .E, .E => .ld_E_E
  | .E, .H => .ld_E_H
  | .E, .L => .ld_E_L
  | .E, .A => .ld_E_A
  | .H, .B => .ld_H_B
  | .H, .C => .ld_H_C
  | .H, .D => .ld_H_D
  | .H, .E => .ld_H_E
  | .H, .H => .ld_H_H
  | .H, .L => .ld_H_L
  | .H, .A => .ld_H_A
  | .L, .B => .ld_L_B
  | .L, .C => .ld_L_C
  | .L, .D => .ld_L_D
  | .L, .E => .ld_L_E
  | .L, .H => .ld_L_H
  | .L, .L => .ld_L_L
  | .L, .A => .ld_L_A
  | .A, .B => .ld_A_B
  | .A, .C => .ld_A_C
  | .A, .D => .ld_A_D
  | .A, .E => .ld_A_E
  | .A, .H => .ld_A_H
  | .A, .L => .ld_A_L
  | .A, .A => .ld_A_A

/-- `LD r,n` (R201). -/
def Instr.ldRegN (d : Reg8) (n : Byte) : Instr :=
  match d with
  | .B => .ld_B_n n
  | .C => .ld_C_n n
  | .D => .ld_D_n n
  | .E => .ld_E_n n
  | .H => .ld_H_n n
  | .L => .ld_L_n n
  | .A => .ld_A_n n

/-- `LD r,(HL)` (R202). -/
def Instr.ldRegAtHL (d : Reg8) : Instr :=
  match d with
  | .B => .ld_B_atHL
  | .C => .ld_C_atHL
  | .D => .ld_D_atHL
  | .E => .ld_E_atHL
  | .H => .ld_H_atHL
  | .L => .ld_L_atHL
  | .A => .ld_A_atHL

/-- `LD (HL),r` (R203). -/
def Instr.ldAtHLReg (r : Reg8) : Instr :=
  match r with
  | .B => .ld_atHL_B
  | .C => .ld_atHL_C
  | .D => .ld_atHL_D
  | .E => .ld_atHL_E
  | .H => .ld_atHL_H
  | .L => .ld_atHL_L
  | .A => .ld_atHL_A

/-- `LD rr,nn` (R230). -/
def Instr.ldPairNN (p : Pair) (nn : Word) : Instr :=
  match p with
  | .BC => .ld_BC_nn nn
  | .DE => .ld_DE_nn nn
  | .HL => .ld_HL_nn nn
  | .SP => .ld_SP_nn nn

/-- `PUSH rr` (R236). -/
def Instr.push (p : StackPair) : Instr :=
  match p with
  | .BC => .push_BC
  | .DE => .push_DE
  | .HL => .push_HL
  | .AF => .push_AF

/-- `POP rr` (R237) and `POP AF` (R238). -/
def Instr.pop (p : StackPair) : Instr :=
  match p with
  | .BC => .pop_BC
  | .DE => .pop_DE
  | .HL => .pop_HL
  | .AF => .pop_AF

/-- The ALU operations on a register (R250, the `r` forms). -/
def Instr.aluReg (op : AluOp) (r : Reg8) : Instr :=
  match op, r with
  | .add, .B => .add_A_B
  | .add, .C => .add_A_C
  | .add, .D => .add_A_D
  | .add, .E => .add_A_E
  | .add, .H => .add_A_H
  | .add, .L => .add_A_L
  | .add, .A => .add_A_A
  | .adc, .B => .adc_A_B
  | .adc, .C => .adc_A_C
  | .adc, .D => .adc_A_D
  | .adc, .E => .adc_A_E
  | .adc, .H => .adc_A_H
  | .adc, .L => .adc_A_L
  | .adc, .A => .adc_A_A
  | .sub, .B => .sub_B
  | .sub, .C => .sub_C
  | .sub, .D => .sub_D
  | .sub, .E => .sub_E
  | .sub, .H => .sub_H
  | .sub, .L => .sub_L
  | .sub, .A => .sub_A
  | .sbc, .B => .sbc_A_B
  | .sbc, .C => .sbc_A_C
  | .sbc, .D => .sbc_A_D
  | .sbc, .E => .sbc_A_E
  | .sbc, .H => .sbc_A_H
  | .sbc, .L => .sbc_A_L
  | .sbc, .A => .sbc_A_A
  | .and, .B => .and_B
  | .and, .C => .and_C
  | .and, .D => .and_D
  | .and, .E => .and_E
  | .and, .H => .and_H
  | .and, .L => .and_L
  | .and, .A => .and_A
  | .xor, .B => .xor_B
  | .xor, .C => .xor_C
  | .xor, .D => .xor_D
  | .xor, .E => .xor_E
  | .xor, .H => .xor_H
  | .xor, .L => .xor_L
  | .xor, .A => .xor_A
  | .or, .B => .or_B
  | .or, .C => .or_C
  | .or, .D => .or_D
  | .or, .E => .or_E
  | .or, .H => .or_H
  | .or, .L => .or_L
  | .or, .A => .or_A
  | .cp, .B => .cp_B
  | .cp, .C => .cp_C
  | .cp, .D => .cp_D
  | .cp, .E => .cp_E
  | .cp, .H => .cp_H
  | .cp, .L => .cp_L
  | .cp, .A => .cp_A

/-- The ALU operations on the byte at HL (R250, the `(HL)` forms). -/
def Instr.aluAtHL (op : AluOp) : Instr :=
  match op with
  | .add => .add_A_atHL
  | .adc => .adc_A_atHL
  | .sub => .sub_atHL
  | .sbc => .sbc_A_atHL
  | .and => .and_atHL
  | .xor => .xor_atHL
  | .or => .or_atHL
  | .cp => .cp_atHL

/-- The ALU operations on an immediate (R250, the `n` forms). -/
def Instr.aluN (op : AluOp) (n : Byte) : Instr :=
  match op with
  | .add => .add_A_n n
  | .adc => .adc_A_n n
  | .sub => .sub_n n
  | .sbc => .sbc_A_n n
  | .and => .and_n n
  | .xor => .xor_n n
  | .or => .or_n n
  | .cp => .cp_n n

/-- `INC r` (R277). -/
def Instr.incReg (r : Reg8) : Instr :=
  match r with
  | .B => .inc_B
  | .C => .inc_C
  | .D => .inc_D
  | .E => .inc_E
  | .H => .inc_H
  | .L => .inc_L
  | .A => .inc_A

/-- `DEC r` (R279). -/
def Instr.decReg (r : Reg8) : Instr :=
  match r with
  | .B => .dec_B
  | .C => .dec_C
  | .D => .dec_D
  | .E => .dec_E
  | .H => .dec_H
  | .L => .dec_L
  | .A => .dec_A

/-- `ADD HL,rr` (R300). -/
def Instr.addHL (p : Pair) : Instr :=
  match p with
  | .BC => .add_HL_BC
  | .DE => .add_HL_DE
  | .HL => .add_HL_HL
  | .SP => .add_HL_SP

/-- `INC rr` (R301). -/
def Instr.incPair (p : Pair) : Instr :=
  match p with
  | .BC => .inc_BC
  | .DE => .inc_DE
  | .HL => .inc_HL
  | .SP => .inc_SP

/-- `DEC rr` (R302). -/
def Instr.decPair (p : Pair) : Instr :=
  match p with
  | .BC => .dec_BC
  | .DE => .dec_DE
  | .HL => .dec_HL
  | .SP => .dec_SP

/-- The extended rotates and shifts on a register (R315 to R329). -/
def Instr.rotReg (op : RotOp) (r : Reg8) : Instr :=
  match op, r with
  | .rlc, .B => .rlc_B
  | .rlc, .C => .rlc_C
  | .rlc, .D => .rlc_D
  | .rlc, .E => .rlc_E
  | .rlc, .H => .rlc_H
  | .rlc, .L => .rlc_L
  | .rlc, .A => .rlc_A
  | .rrc, .B => .rrc_B
  | .rrc, .C => .rrc_C
  | .rrc, .D => .rrc_D
  | .rrc, .E => .rrc_E
  | .rrc, .H => .rrc_H
  | .rrc, .L => .rrc_L
  | .rrc, .A => .rrc_A
  | .rl, .B => .rl_B
  | .rl, .C => .rl_C
  | .rl, .D => .rl_D
  | .rl, .E => .rl_E
  | .rl, .H => .rl_H
  | .rl, .L => .rl_L
  | .rl, .A => .rl_A
  | .rr, .B => .rr_B
  | .rr, .C => .rr_C
  | .rr, .D => .rr_D
  | .rr, .E => .rr_E
  | .rr, .H => .rr_H
  | .rr, .L => .rr_L
  | .rr, .A => .rr_A
  | .sla, .B => .sla_B
  | .sla, .C => .sla_C
  | .sla, .D => .sla_D
  | .sla, .E => .sla_E
  | .sla, .H => .sla_H
  | .sla, .L => .sla_L
  | .sla, .A => .sla_A
  | .sra, .B => .sra_B
  | .sra, .C => .sra_C
  | .sra, .D => .sra_D
  | .sra, .E => .sra_E
  | .sra, .H => .sra_H
  | .sra, .L => .sra_L
  | .sra, .A => .sra_A
  | .swap, .B => .swap_B
  | .swap, .C => .swap_C
  | .swap, .D => .swap_D
  | .swap, .E => .swap_E
  | .swap, .H => .swap_H
  | .swap, .L => .swap_L
  | .swap, .A => .swap_A
  | .srl, .B => .srl_B
  | .srl, .C => .srl_C
  | .srl, .D => .srl_D
  | .srl, .E => .srl_E
  | .srl, .H => .srl_H
  | .srl, .L => .srl_L
  | .srl, .A => .srl_A

/-- The extended rotates and shifts on the byte at HL (R316 to R330). -/
def Instr.rotAtHL (op : RotOp) : Instr :=
  match op with
  | .rlc => .rlc_atHL
  | .rrc => .rrc_atHL
  | .rl => .rl_atHL
  | .rr => .rr_atHL
  | .sla => .sla_atHL
  | .sra => .sra_atHL
  | .swap => .swap_atHL
  | .srl => .srl_atHL

/-- `BIT b,r` (R331). -/
def Instr.bitReg (b : Fin 8) (r : Reg8) : Instr :=
  match b, r with
  | 0, .B => .bit_0_B
  | 0, .C => .bit_0_C
  | 0, .D => .bit_0_D
  | 0, .E => .bit_0_E
  | 0, .H => .bit_0_H
  | 0, .L => .bit_0_L
  | 0, .A => .bit_0_A
  | 1, .B => .bit_1_B
  | 1, .C => .bit_1_C
  | 1, .D => .bit_1_D
  | 1, .E => .bit_1_E
  | 1, .H => .bit_1_H
  | 1, .L => .bit_1_L
  | 1, .A => .bit_1_A
  | 2, .B => .bit_2_B
  | 2, .C => .bit_2_C
  | 2, .D => .bit_2_D
  | 2, .E => .bit_2_E
  | 2, .H => .bit_2_H
  | 2, .L => .bit_2_L
  | 2, .A => .bit_2_A
  | 3, .B => .bit_3_B
  | 3, .C => .bit_3_C
  | 3, .D => .bit_3_D
  | 3, .E => .bit_3_E
  | 3, .H => .bit_3_H
  | 3, .L => .bit_3_L
  | 3, .A => .bit_3_A
  | 4, .B => .bit_4_B
  | 4, .C => .bit_4_C
  | 4, .D => .bit_4_D
  | 4, .E => .bit_4_E
  | 4, .H => .bit_4_H
  | 4, .L => .bit_4_L
  | 4, .A => .bit_4_A
  | 5, .B => .bit_5_B
  | 5, .C => .bit_5_C
  | 5, .D => .bit_5_D
  | 5, .E => .bit_5_E
  | 5, .H => .bit_5_H
  | 5, .L => .bit_5_L
  | 5, .A => .bit_5_A
  | 6, .B => .bit_6_B
  | 6, .C => .bit_6_C
  | 6, .D => .bit_6_D
  | 6, .E => .bit_6_E
  | 6, .H => .bit_6_H
  | 6, .L => .bit_6_L
  | 6, .A => .bit_6_A
  | 7, .B => .bit_7_B
  | 7, .C => .bit_7_C
  | 7, .D => .bit_7_D
  | 7, .E => .bit_7_E
  | 7, .H => .bit_7_H
  | 7, .L => .bit_7_L
  | 7, .A => .bit_7_A

/-- `BIT b,(HL)` (R332). -/
def Instr.bitAtHL (b : Fin 8) : Instr :=
  match b with
  | 0 => .bit_0_atHL
  | 1 => .bit_1_atHL
  | 2 => .bit_2_atHL
  | 3 => .bit_3_atHL
  | 4 => .bit_4_atHL
  | 5 => .bit_5_atHL
  | 6 => .bit_6_atHL
  | 7 => .bit_7_atHL

/-- `RES b,r` (R333). -/
def Instr.resReg (b : Fin 8) (r : Reg8) : Instr :=
  match b, r with
  | 0, .B => .res_0_B
  | 0, .C => .res_0_C
  | 0, .D => .res_0_D
  | 0, .E => .res_0_E
  | 0, .H => .res_0_H
  | 0, .L => .res_0_L
  | 0, .A => .res_0_A
  | 1, .B => .res_1_B
  | 1, .C => .res_1_C
  | 1, .D => .res_1_D
  | 1, .E => .res_1_E
  | 1, .H => .res_1_H
  | 1, .L => .res_1_L
  | 1, .A => .res_1_A
  | 2, .B => .res_2_B
  | 2, .C => .res_2_C
  | 2, .D => .res_2_D
  | 2, .E => .res_2_E
  | 2, .H => .res_2_H
  | 2, .L => .res_2_L
  | 2, .A => .res_2_A
  | 3, .B => .res_3_B
  | 3, .C => .res_3_C
  | 3, .D => .res_3_D
  | 3, .E => .res_3_E
  | 3, .H => .res_3_H
  | 3, .L => .res_3_L
  | 3, .A => .res_3_A
  | 4, .B => .res_4_B
  | 4, .C => .res_4_C
  | 4, .D => .res_4_D
  | 4, .E => .res_4_E
  | 4, .H => .res_4_H
  | 4, .L => .res_4_L
  | 4, .A => .res_4_A
  | 5, .B => .res_5_B
  | 5, .C => .res_5_C
  | 5, .D => .res_5_D
  | 5, .E => .res_5_E
  | 5, .H => .res_5_H
  | 5, .L => .res_5_L
  | 5, .A => .res_5_A
  | 6, .B => .res_6_B
  | 6, .C => .res_6_C
  | 6, .D => .res_6_D
  | 6, .E => .res_6_E
  | 6, .H => .res_6_H
  | 6, .L => .res_6_L
  | 6, .A => .res_6_A
  | 7, .B => .res_7_B
  | 7, .C => .res_7_C
  | 7, .D => .res_7_D
  | 7, .E => .res_7_E
  | 7, .H => .res_7_H
  | 7, .L => .res_7_L
  | 7, .A => .res_7_A

/-- `RES b,(HL)` (R334). -/
def Instr.resAtHL (b : Fin 8) : Instr :=
  match b with
  | 0 => .res_0_atHL
  | 1 => .res_1_atHL
  | 2 => .res_2_atHL
  | 3 => .res_3_atHL
  | 4 => .res_4_atHL
  | 5 => .res_5_atHL
  | 6 => .res_6_atHL
  | 7 => .res_7_atHL

/-- `SET b,r` (R335). -/
def Instr.setReg (b : Fin 8) (r : Reg8) : Instr :=
  match b, r with
  | 0, .B => .set_0_B
  | 0, .C => .set_0_C
  | 0, .D => .set_0_D
  | 0, .E => .set_0_E
  | 0, .H => .set_0_H
  | 0, .L => .set_0_L
  | 0, .A => .set_0_A
  | 1, .B => .set_1_B
  | 1, .C => .set_1_C
  | 1, .D => .set_1_D
  | 1, .E => .set_1_E
  | 1, .H => .set_1_H
  | 1, .L => .set_1_L
  | 1, .A => .set_1_A
  | 2, .B => .set_2_B
  | 2, .C => .set_2_C
  | 2, .D => .set_2_D
  | 2, .E => .set_2_E
  | 2, .H => .set_2_H
  | 2, .L => .set_2_L
  | 2, .A => .set_2_A
  | 3, .B => .set_3_B
  | 3, .C => .set_3_C
  | 3, .D => .set_3_D
  | 3, .E => .set_3_E
  | 3, .H => .set_3_H
  | 3, .L => .set_3_L
  | 3, .A => .set_3_A
  | 4, .B => .set_4_B
  | 4, .C => .set_4_C
  | 4, .D => .set_4_D
  | 4, .E => .set_4_E
  | 4, .H => .set_4_H
  | 4, .L => .set_4_L
  | 4, .A => .set_4_A
  | 5, .B => .set_5_B
  | 5, .C => .set_5_C
  | 5, .D => .set_5_D
  | 5, .E => .set_5_E
  | 5, .H => .set_5_H
  | 5, .L => .set_5_L
  | 5, .A => .set_5_A
  | 6, .B => .set_6_B
  | 6, .C => .set_6_C
  | 6, .D => .set_6_D
  | 6, .E => .set_6_E
  | 6, .H => .set_6_H
  | 6, .L => .set_6_L
  | 6, .A => .set_6_A
  | 7, .B => .set_7_B
  | 7, .C => .set_7_C
  | 7, .D => .set_7_D
  | 7, .E => .set_7_E
  | 7, .H => .set_7_H
  | 7, .L => .set_7_L
  | 7, .A => .set_7_A

/-- `SET b,(HL)` (R336). -/
def Instr.setAtHL (b : Fin 8) : Instr :=
  match b with
  | 0 => .set_0_atHL
  | 1 => .set_1_atHL
  | 2 => .set_2_atHL
  | 3 => .set_3_atHL
  | 4 => .set_4_atHL
  | 5 => .set_5_atHL
  | 6 => .set_6_atHL
  | 7 => .set_7_atHL

/-- `JP cc,nn` (R352). -/
def Instr.jpCond (c : Cond) (nn : Word) : Instr :=
  match c with
  | .NZ => .jp_NZ_nn nn
  | .Z => .jp_Z_nn nn
  | .NC => .jp_NC_nn nn
  | .C => .jp_C_nn nn

/-- `JR cc,e` (R355). -/
def Instr.jrCond (c : Cond) (e : Byte) : Instr :=
  match c with
  | .NZ => .jr_NZ_e e
  | .Z => .jr_Z_e e
  | .NC => .jr_NC_e e
  | .C => .jr_C_e e

/-- `CALL cc,nn` (R357). -/
def Instr.callCond (c : Cond) (nn : Word) : Instr :=
  match c with
  | .NZ => .call_NZ_nn nn
  | .Z => .call_Z_nn nn
  | .NC => .call_NC_nn nn
  | .C => .call_C_nn nn

/-- `RET cc` (R359). -/
def Instr.retCond (c : Cond) : Instr :=
  match c with
  | .NZ => .ret_NZ
  | .Z => .ret_Z
  | .NC => .ret_NC
  | .C => .ret_C

/-- `RST t`, t = y * 8 (R362). -/
def Instr.rst (y : Fin 8) : Instr :=
  match y with
  | 0 => .rst_00
  | 1 => .rst_08
  | 2 => .rst_10
  | 3 => .rst_18
  | 4 => .rst_20
  | 5 => .rst_28
  | 6 => .rst_30
  | 7 => .rst_38

/-- The illegal opcodes (R173, R377). -/
def Instr.illegal (op : IllegalOp) : Instr :=
  match op with
  | .D3 => .illegal_D3
  | .DB => .illegal_DB
  | .DD => .illegal_DD
  | .E3 => .illegal_E3
  | .E4 => .illegal_E4
  | .EB => .illegal_EB
  | .EC => .illegal_EC
  | .ED => .illegal_ED
  | .F4 => .illegal_F4
  | .FC => .illegal_FC
  | .FD => .illegal_FD

end Sys2Proof
end

