-- ==== Sys2Proof/Machine/Bits.lean ====
section
/-!
DEFINITION. Byte order, sign extension and bit fields (00_scope.md R9, R10; 20_memory.md R72, R73).
-/

namespace Sys2Proof.Machine

/-- `v[15:8]`. -/
def hiByte (v : Word) : Byte := v.extractLsb' 8 8

/-- `v[7:0]`. -/
def loByte (v : Word) : Byte := v.extractLsb' 0 8

/-- `{hi, lo}` (R10). -/
def mkWord (hi lo : Byte) : Word := hi ++ lo

/-- `sext_16(v)`: v if v < 128, else v + 0xFF00 (R10). -/
def sext16 (v : Byte) : Word := if v.toNat < 128 then v.setWidth 16 else v.setWidth 16 + 0xFF00#16

/-- `zext_16(v)` (R10). -/
def zext16 (v : Byte) : Word := v.setWidth 16

/-- The high page 0xFF00 + n (40_load8.md R211 to R214). -/
def highPage (n : Byte) : Word := 0xFF00#16 + zext16 n

/-- `1 << b` within 8 bits. -/
def bitMask (b : Fin 8) : Byte := 1#8 <<< b.val

end Sys2Proof.Machine
end

