-- ==== Sys2Proof/Config.lean ====
section
/-!
DEFINITION. The parameters 00_scope.md R7 leaves open, with the default it gives each. They are constant after reset; the machine's
State carries them, so that one step function serves every choice of them (log 7, log 8).
-/

namespace Sys2Proof

/-- `STOP_SEMANTICS`: what the stop instruction does (46_system.md R372, 92_eei_decisions.md D10). The spec's default is `refuse`;
`halt` (as HALT) and `nop` are the other values it lets a model offer. -/
inductive StopSemantics where
  | refuse
  | halt
  | nop
  deriving DecidableEq, Repr

/-- The open parameters of R7 that the running machine reads. -/
structure Params where
  /-- `HALT_CYCLES`, the cost of a step taken while halted (D6). -/
  haltCycles : Nat
  /-- `INT_CYCLES`, the cost of interrupt service (D7). -/
  intCycles : Nat
  /-- `STOP_SEMANTICS` (D10). -/
  stop : StopSemantics
  deriving DecidableEq, Repr

/-- The defaults of R7: 4, 20, refuse. -/
def Params.default : Params := { haltCycles := 4, intCycles := 20, stop := .refuse }

end Sys2Proof
end

