-- ==== Sys2Proof/Machine/State.lean ====
section
/-!
DEFINITION. The machine's state as plain data (10_state.md), the named reasons a step can stop, and the state after reset.
Every field is a piece of state a rule of the spec names, but `cycles`, the number a step returns (R422), which is the model's own.
-/

namespace Sys2Proof.Machine

/-- A storage array: (offset, byte) pairs, offsets strictly rising, no pair equal to what an unlisted offset reads as
(`Memory.wf`; reading and writing in Machine/Mem.lean). -/
abbrev Memory := List Host.Cell

/-- The four condition flags, the canonical state of R21. -/
structure Flags where
  /-- fZ -/
  z : Bool
  /-- fN -/
  n : Bool
  /-- fH -/
  h : Bool
  /-- fC -/
  c : Bool
  deriving DecidableEq, Repr

/-- The processor's registers (R20 to R29). -/
structure Cpu where
  a : Byte
  b : Byte
  c : Byte
  d : Byte
  e : Byte
  h : Byte
  l : Byte
  /-- The four flags; register F is their packing (R21). -/
  f : Flags
  sp : Word
  pc : Word
  /-- IME (R27). -/
  ime : Bool
  /-- IME_PENDING (R28). -/
  imePending : Bool
  /-- HALTED (R29). -/
  halted : Bool
  deriving DecidableEq, Repr

/-- CART_TYPE (R35). -/
inductive CartType where
  | romOnly
  | mbc1
  | mbc3
  deriving DecidableEq, Repr

/-- The cartridge: its image, its RAM and the banking fields of R35. -/
structure Cart where
  /-- CART_TYPE, constant after reset. -/
  kind : CartType
  /-- ROM_BANKS, constant after reset. -/
  romBanks : Nat
  /-- XRAM_SIZE in bytes, constant after reset. -/
  xramSize : Nat
  /-- RAM_EN. -/
  ramEn : Bool
  /-- BANK_LO. -/
  bankLo : BitVec 7
  /-- BANK_HI. -/
  bankHi : BitVec 4
  /-- BANK_MODE. -/
  bankMode : Bool
  /-- ROM: `CART_IMAGE`, read-only (R130). -/
  rom : Memory
  /-- XRAM (R33). -/
  xram : Memory
  deriving DecidableEq, Repr

/-- MODE of the pixel unit (R36). -/
inductive PpuMode where
  | hblank
  | vblank
  | oamSearch
  | transfer
  deriving DecidableEq, Repr

/-- One sprite record, kept decoded (R46). -/
structure OamRecord where
  y : Byte
  x : Byte
  tile : Byte
  behindBg : Bool
  yflip : Bool
  xflip : Bool
  pal : Bool
  deriving DecidableEq, Repr

/-- A display shade 0..3 (62_ppu.md R463). -/
abbrev Shade := BitVec 2

/-- One rendered row: 160 shades (R464). -/
abbrev Row := List Shade

/-- The pixel unit (R36, R46). -/
structure Ppu where
  mode : PpuMode
  /-- MODE_CLOCK: cycles spent in the current mode. -/
  modeClock : Nat
  ly : Byte
  lcdc : Byte
  /-- STAT_EN: bits 6:3 of STAT (R473). -/
  statEn : BitVec 4
  scy : Byte
  scx : Byte
  wy : Byte
  wx : Byte
  lyc : Byte
  bgp : Byte
  obp0 : Byte
  obp1 : Byte
  /-- DMA_REG: the last value written to the DMA trigger. -/
  dmaReg : Byte
  /-- STAT_LINE: the "already flagged" latch (R486). -/
  statLine : Bool
  vram : Memory
  oam : Vector OamRecord 40
  /-- FRAME: the rows rendered so far, by row number, rising; a row no render has written is not listed (log 3). -/
  frame : List (Nat × Row)
  deriving DecidableEq, Repr

/-- The timer (R37). -/
structure Timer where
  /-- DIVCTR -/
  div : BitVec 16
  tima : Byte
  tma : Byte
  tacEn : Bool
  tacSel : BitVec 2
  deriving DecidableEq, Repr

/-- The joypad (R38). -/
structure Joypad where
  /-- P1_SEL -/
  sel : BitVec 2
  /-- JOYPAD_LINES, host-driven, 1 = pressed. -/
  lines : Byte
  deriving DecidableEq, Repr

/-- The kinds of fault (60_exceptions.md R408). `illegalOpcode` is raised by the eleven illegal opcodes (safe: the spec's own
terminal state). `busDecodeMiss` is in the spec's table and unreachable: the decoder is total (R88, R402), and nothing raises it
here either. `unsupportedCartridge` is raised by reset only (R403). -/
inductive FaultKind where
  | illegalOpcode
  | busDecodeMiss
  | unsupportedCartridge
  deriving DecidableEq, Repr

/-- The FAULT record {kind, address, value} (R32). -/
structure FaultRecord where
  kind : FaultKind
  address : Word
  value : Byte
  deriving DecidableEq, Repr

/-- The state of the whole machine. -/
structure State where
  cpu : Cpu
  /-- IF: vblank, lcd-stat, timer, serial, joypad in bits 0..4 (R30, R405). -/
  ifl : BitVec 5
  /-- IE (R31, R406). -/
  ie : BitVec 5
  /-- FAULT: absent while the machine runs (R32). -/
  fault : Option FaultRecord
  /-- BOOT: the overlay image, absent or 256 bytes (R33). -/
  boot : Option Memory
  /-- BOOT_OFF (R34). -/
  bootOff : Bool
  cart : Cart
  ppu : Ppu
  timer : Timer
  joypad : Joypad
  /-- SB (R453). -/
  sb : Byte
  /-- SC (R453). -/
  sc : Byte
  /-- WRAM, 8192 bytes. -/
  wram : Memory
  /-- HRAM, 127 bytes. -/
  hram : Memory
  /-- SND, 48 bytes (R98). -/
  snd : Memory
  /-- The open parameters of R7, constant after reset. -/
  params : Params
  /-- The number the last step returned (R10 `cycles`, R422); while an instruction executes, its own cost (log 5). -/
  cycles : Nat
  deriving DecidableEq, Repr

/-- Why a step stops with a fault. -/
inductive Fault where
  /-- A step asked of a machine whose FAULT is present, or a reset that raises UnsupportedCartridge: R400 gives no further step.
  Raised by `coordinatorStep` and `resetWith`. Safe. -/
  | terminal (r : FaultRecord)
  deriving DecidableEq, Repr

/-- Why a step, or a reset, has no successor state. -/
inductive Refusal where
  /-- An instruction the model gives no meaning yet; raised by `exec`'s refused arms only (there is none). Safe. -/
  | notModelled (mnemonic : String)
  /-- STOP under `STOP_SEMANTICS = refuse`: "the model defines no successor state" (46_system.md R372). Raised by `execStop`. Safe. -/
  | stopUnspecified
  /-- The boot image is not 256 bytes long (70_reset_and_hazards.md R532 step 1). Raised by `resetWith`. Safe. -/
  | bootImageLength
  /-- The cartridge image is shorter than its header (R532 step 2). Raised by `resetWith`. Safe. -/
  | cartImageTooShort
  /-- The ROM-size code is out of range (R132). Raised by `resetWith`. Safe. -/
  | romSizeCode
  /-- The RAM-size code is out of range (R133). Raised by `resetWith`. Safe. -/
  | ramSizeCode
  /-- The image's length is not ROM_BANKS * 0x4000 (R132). Raised by `resetWith`. Safe. -/
  | cartImageLength
  deriving DecidableEq, Repr

/-- The outcome of a step or of an instruction. -/
abbrev Out := Host.Outcome State Fault Refusal

/-- The processor under reset profile P-CART (R43): what the console's boot program leaves. -/
def Cpu.resetPCart : Cpu :=
  { a := 0x01, b := 0x00, c := 0x13, d := 0x00, e := 0xD8, h := 0x01, l := 0x4D
    f := { z := true, n := false, h := true, c := true }
    sp := 0xFFFE, pc := 0x0100, ime := false, imePending := false, halted := false }

/-- A sprite record of zeros: what `State.reset` puts in OAM, whose reset contents R45 leaves open (log 2). -/
def OamRecord.zero : OamRecord :=
  { y := 0, x := 0, tile := 0, behindBg := false, yflip := false, xflip := false, pal := false }

/-- The pixel unit under P-CART (R43). -/
def Ppu.resetPCart : Ppu :=
  { mode := .oamSearch, modeClock := 0, ly := 0, lcdc := 0x91, statEn := 0, scy := 0, scx := 0, wy := 0, wx := 0, lyc := 0
    bgp := 0xFC, obp0 := 0xFF, obp1 := 0xFF, dmaReg := 0xFF, statLine := false
    vram := [], oam := Vector.replicate 40 OamRecord.zero, frame := [] }

/-- The cartridge after reset with the blank image: 0x8000 bytes, every one 00, so that its header reads RomOnly, two banks, no
cartridge RAM (R44, R131 to R133; log 1). -/
def Cart.resetBlank : Cart :=
  { kind := .romOnly, romBanks := 2, xramSize := 0, ramEn := false, bankLo := 1, bankHi := 0, bankMode := false, rom := [], xram := [] }

/-- The machine right after reset with no boot image and the blank cartridge: profile P-CART (R43, R44), every memory unlisted.
Laws/Reset.lean proves it is what the reset procedure of R532 gives for those two arguments. -/
def State.reset : State :=
  { cpu := Cpu.resetPCart, ifl := 0b00001, ie := 0, fault := none, boot := none, bootOff := true
    cart := Cart.resetBlank, ppu := Ppu.resetPCart
    timer := { div := 0xABCC, tima := 0, tma := 0, tacEn := false, tacSel := 0 }
    joypad := { sel := 0b11, lines := 0 }
    sb := 0, sc := 0, wram := [], hram := [], snd := [], params := Params.default, cycles := 0 }

end Sys2Proof.Machine
end

