-- ==== Sys2Proof/Machine/Mem.lean ====
section
/-!
DEFINITION. Reading and writing a storage array, in the one canonical form of `Memory`.
-/

namespace Sys2Proof.Machine

/-- What an unlisted offset of any array reads as. R45 leaves RAM contents after reset open: DESIGN CHOICE 0x00 (log 2, unsafe). -/
def Memory.unlisted : Byte := 0x00

/-- The byte at offset `a`. -/
def Memory.read : Memory → Nat → Byte
  | [], _ => Memory.unlisted
  | (k, v) :: m, a => if k = a then v else Memory.read m a

/-- Lists `v` at offset `a` before the first larger offset. -/
def Memory.insert (a : Nat) (v : Byte) : Memory → Memory
  | [] => [(a, v)]
  | (k, w) :: m => if a < k then (a, v) :: (k, w) :: m else (k, w) :: Memory.insert a v m

/-- Stores `v` at offset `a`; storing what an unlisted offset reads as unlists it. -/
def Memory.write (m : Memory) (a : Nat) (v : Byte) : Memory :=
  let rest := m.filter (fun cell => decide (cell.1 ≠ a))
  if v = Memory.unlisted then rest else Memory.insert a v rest

/-- The offsets of an array rise strictly. -/
def Memory.rising : Memory → Bool
  | [] => true
  | [_] => true
  | (j, _) :: (k, w) :: m => decide (j < k) && Memory.rising ((k, w) :: m)

/-- The canonical form: offsets strictly rising, no entry equal to what an unlisted offset reads as. -/
def Memory.wf (m : Memory) : Bool := m.rising && m.all (fun cell => decide (cell.2 ≠ Memory.unlisted))

/-- Every listed offset lies below the array's size. -/
def Memory.within (size : Nat) (m : Memory) : Bool := m.all (fun cell => decide (cell.1 < size))

end Sys2Proof.Machine
end

