-- ==== Sys2Proof/Machine/Cart.lean ====
section
/-!
DEFINITION. The cartridge and its bank controller (21_cartridge.md): the two bank indices, the reads and writes of the ROM and
cartridge RAM windows, and the bank-control writes. Addresses are bus addresses.
-/

namespace Sys2Proof.Machine

/-- `rom_bank()` (R136). -/
def romBank (c : Cart) : Nat :=
  match c.kind with
  | .romOnly => 1
  | .mbc1 =>
    let lo := (c.bankLo.extractLsb' 0 5).toNat
    (if c.bankMode then lo else (c.bankHi.extractLsb' 0 2).toNat * 32 + lo) % c.romBanks
  | .mbc3 => c.bankLo.toNat % c.romBanks

/-- `ram_bank()` (R136). -/
def ramBank (c : Cart) : Nat :=
  match c.kind with
  | .romOnly => 0
  | .mbc1 => if c.bankMode then (c.bankHi.extractLsb' 0 2).toNat else 0
  | .mbc3 => c.bankHi.toNat

/-- The image offset a ROM address 0x0000-0x7FFF selects (R135, R137; 90_conflicts.md C1). -/
def romOffset (c : Cart) (a : Nat) : Nat := if a < 0x4000 then a else romBank c * 0x4000 + (a - 0x4000)

/-- A ROM read (R137). -/
def romRead (c : Cart) (a : Nat) : Byte := c.rom.read (romOffset c a)

/-- Whether 0xA000-0xBFFF reaches cartridge RAM: enabled, present, and no Mbc3 clock register selected (R138). -/
def xramOpen (c : Cart) : Bool :=
  c.ramEn && decide (c.xramSize ≠ 0) && !(decide (c.kind = .mbc3) && decide (ramBank c > 3))

/-- The XRAM offset of an address 0xA000-0xBFFF (R135). -/
def xramOffset (c : Cart) (a : Nat) : Nat := (ramBank c * 0x2000 + (a - 0xA000)) % c.xramSize

/-- A cartridge RAM read (R138). -/
def xramRead (c : Cart) (a : Nat) : Byte := if xramOpen c then c.xram.read (xramOffset c a) else 0xFF

/-- A cartridge RAM write (R139): ignored exactly where a read gives the stub. -/
def xramWrite (c : Cart) (a : Nat) (v : Byte) : Cart :=
  if xramOpen c then { c with xram := c.xram.write (xramOffset c a) v } else c

/-- A bank-control write of `v` to 0x0000-0x7FFF (R140 to R149). -/
def bankControl (c : Cart) (a : Nat) (v : Byte) : Cart :=
  match c.kind with
  | .romOnly => c
  | .mbc1 =>
    if a < 0x2000 then { c with ramEn := decide (v.extractLsb' 0 4 = 0xA#4) }
    else if a < 0x4000 then
      let t := v.extractLsb' 0 5
      { c with bankLo := if t = 0 then 1 else t.setWidth 7 }
    else if a < 0x6000 then { c with bankHi := (v.extractLsb' 0 2).setWidth 4 }
    else { c with bankMode := v.getLsbD 0 }
  | .mbc3 =>
    if a < 0x2000 then { c with ramEn := decide (v.extractLsb' 0 4 = 0xA#4) }
    else if a < 0x4000 then
      let t := v.extractLsb' 0 7
      { c with bankLo := if t = 0 then 1 else t }
    else if a < 0x6000 then { c with bankHi := v.extractLsb' 0 4 }
    else c

end Sys2Proof.Machine
end

