-- ==== Sys2Proof/Machine/Joypad.lean ====
section
/-!
DEFINITION. The joypad register P1 and the host's action on the button lines (60_exceptions.md R452).
-/

namespace Sys2Proof.Machine

/-- `p1_low()` (R452): the four output lines, 0 = pressed. -/
def p1Low (j : Joypad) : BitVec 4 :=
  ~~~((if j.sel.getLsbD 0 then 0#4 else j.lines.extractLsb' 0 4) ||| (if j.sel.getLsbD 1 then 0#4 else j.lines.extractLsb' 4 4))

/-- The value P1 reads as (R452). -/
def p1Read (j : Joypad) : Byte := 0b11#2 ++ (j.sel ++ p1Low j)

/-- A processor write to P1 (R452): bits 5:4 are kept. -/
def p1Write (j : Joypad) (v : Byte) : Joypad := { j with sel := v.extractLsb' 4 2 }

/-- `host_set_joypad(lines')` (R452), a host action between steps (R424): a line that falls raises IF bit 4. -/
def hostSetJoypad (lines : Byte) (s : State) : State :=
  let before := p1Low s.joypad
  let joypad := { s.joypad with lines := lines }
  let fell := before &&& ~~~(p1Low joypad)
  { s with joypad := joypad, ifl := if fell = 0 then s.ifl else s.ifl ||| 0b10000#5 }

end Sys2Proof.Machine
end

