-- ==== Sys2Proof/Machine/Timer.lean ====
section
/-!
DEFINITION. The timer (60_exceptions.md R440 to R446): the divider, the edge that ticks TIMA, the overflow, and `timer_step`.
-/

namespace Sys2Proof.Machine

/-- `SELBIT[TAC_SEL]`: the divider bit each clock-select picks (R444). -/
def selBit (sel : BitVec 2) : Nat :=
  match sel.toNat with
  | 0 => 9
  | 1 => 3
  | 2 => 5
  | _ => 7

/-- `tima_tick()` (R446): the timer after a tick and whether TIMA overflowed. -/
def timaTick (t : Timer) : Timer × Bool :=
  if t.tima.toNat + 1 = 0x100 then ({ t with tima := t.tma }, true) else ({ t with tima := t.tima + 1 }, false)

/-- A write of any value to DIV (R441): the divider clears, and a selected bit that falls ticks TIMA. -/
def divWrite (t : Timer) : Timer × Bool :=
  let cleared := { t with div := 0 }
  if t.tacEn && t.div.getLsbD (selBit t.tacSel) then timaTick cleared else (cleared, false)

/-- One cycle of `timer_step` (R445). -/
def timerCycle (t : Timer) : Timer × Bool :=
  let next := { t with div := t.div + 1 }
  if t.tacEn && t.div.getLsbD (selBit t.tacSel) && !next.div.getLsbD (selBit t.tacSel) then timaTick next else (next, false)

/-- `timer_step(n)` (R445): n cycles, and whether any of them overflowed TIMA. -/
def timerStep : Nat → Timer → Timer × Bool
  | 0, t => (t, false)
  | n + 1, t =>
    let r := timerCycle t
    let rest := timerStep n r.1
    (rest.1, r.2 || rest.2)

/-- The value TAC reads as (R444): bits 7:3 are not stored and read 1. -/
def tacRead (t : Timer) : Byte := 0b11111#5 ++ (BitVec.ofBool t.tacEn ++ t.tacSel)

/-- A write to TAC (R444); it never ticks TIMA. -/
def tacWrite (t : Timer) (v : Byte) : Timer := { t with tacEn := v.getLsbD 2, tacSel := v.extractLsb' 0 2 }

end Sys2Proof.Machine
end

