-- ==== Sys2Proof/Machine/Video.lean ====
section
/-!
DEFINITION. The pixel unit as the bus sees it (62_ppu.md R460, R470 to R477, R482, R485): the access gates, the OAM byte accessors,
STAT and the LCDC write.
-/

namespace Sys2Proof.Machine

/-- The two bits MODE reads as (R36, R481). -/
def PpuMode.bits : PpuMode → BitVec 2
  | .hblank => 0
  | .vblank => 1
  | .oamSearch => 2
  | .transfer => 3

/-- Video RAM is open to the bus in every mode but pixel-transfer (20_memory.md R79). -/
def vramOpen (p : Ppu) : Bool := decide (p.mode ≠ .transfer)

/-- Sprite memory is open to the bus in h-blank and v-blank (20_memory.md R83). -/
def oamOpen (p : Ppu) : Bool := decide (p.mode = .hblank) || decide (p.mode = .vblank)

/-- One byte of a sprite record (R470); `k` is taken modulo 4. -/
def OamRecord.readByte (r : OamRecord) (k : Nat) : Byte :=
  match k % 4 with
  | 0 => r.y
  | 1 => r.x
  | 2 => r.tile
  | _ => BitVec.ofBool r.behindBg ++ (BitVec.ofBool r.yflip ++ (BitVec.ofBool r.xflip ++ (BitVec.ofBool r.pal ++ 0#4)))

/-- Writes one byte of a sprite record (R471): a flag byte's bits 3:0 are discarded. -/
def OamRecord.writeByte (r : OamRecord) (k : Nat) (v : Byte) : OamRecord :=
  match k % 4 with
  | 0 => { r with y := v }
  | 1 => { r with x := v }
  | 2 => { r with tile := v }
  | _ => { r with behindBg := v.getLsbD 7, yflip := v.getLsbD 6, xflip := v.getLsbD 5, pal := v.getLsbD 4 }

/-- Record `n` of the table; only n < 40 exists (R46). -/
def oamRecord (p : Ppu) (n : Nat) : OamRecord := if h : n < 40 then p.oam[n] else OamRecord.zero

/-- `oam_read_byte(k)` for k in 0..159 (R470). -/
def oamReadByte (p : Ppu) (k : Nat) : Byte := (oamRecord p (k / 4)).readByte k

/-- `oam_write_byte(k, v)` for k in 0..159 (R471). -/
def oamWriteByte (k : Nat) (v : Byte) (p : Ppu) : Ppu :=
  if h : k / 4 < 40 then { p with oam := p.oam.set (k / 4) ((p.oam[k / 4]).writeByte k v) } else p

/-- The value STAT reads as (R473). -/
def statRead (p : Ppu) : Byte := 1#1 ++ (p.statEn ++ (BitVec.ofBool (decide (p.ly = p.lyc)) ++ p.mode.bits))

/-- A write to STAT keeps bits 6:3 (R473). -/
def statWrite (p : Ppu) (v : Byte) : Ppu := { p with statEn := v.extractLsb' 3 4 }

/-- A write to LCDC with the on/off transition of R482. -/
def lcdcWrite (p : Ppu) (v : Byte) : Ppu :=
  match p.lcdc.getLsbD 7, v.getLsbD 7 with
  | true, false => { p with lcdc := v, mode := .hblank, modeClock := 0, ly := 0 }
  | false, true => { p with lcdc := v, mode := .oamSearch, modeClock := 0, ly := 0 }
  | _, _ => { p with lcdc := v }

end Sys2Proof.Machine
end

