-- ==== Sys2Proof/Machine/Ops.lean ====
section
/-!
DEFINITION. The shared operations: the memory bus (20_memory.md), the stack (45_control.md R360), interrupt service and the return
from it (60_exceptions.md R414, 45_control.md R361), raising a fault (R400), and an instruction's completion.
-/

namespace Sys2Proof.Machine

/-- The regions of the address map (20_memory.md R76, rows 2 to 11; the boot overlay of row 1 shadows `rom` on reads). -/
inductive Region where
  | rom
  | vram
  | xram
  | wram
  | echo
  | oam
  | unused
  | io
  | hram
  | ie
  deriving DecidableEq, Repr

/-- The address decoder (R76): total, one region for every address (R88). -/
def regionOf (a : Word) : Region :=
  let n := a.toNat
  if n < 0x8000 then .rom
  else if n < 0xA000 then .vram
  else if n < 0xC000 then .xram
  else if n < 0xE000 then .wram
  else if n < 0xFE00 then .echo
  else if n < 0xFEA0 then .oam
  else if n < 0xFF00 then .unused
  else if n < 0xFF80 then .io
  else if n < 0xFFFF then .hram
  else .ie

/-- A read of 0x0000-0x7FFF: the boot overlay answers below 0x0100 while BOOT_OFF = 0 and an image is present (R77, 10_state.md R34). -/
def bootOrRomRead (a : Nat) (s : State) : Byte :=
  match s.boot with
  | some image => if a < 0x100 ∧ s.bootOff = false then image.read a else romRead s.cart a
  | none => romRead s.cart a

/-- A read of 0xFF00-0xFF7F, by register (R90); an unimplemented address reads 0xFF (R99). -/
def ioRead (a : Nat) (s : State) : Byte :=
  if 0xFF10 ≤ a ∧ a < 0xFF40 then s.snd.read (a - 0xFF10)
  else match a with
    | 0xFF00 => p1Read s.joypad
    | 0xFF01 => s.sb
    | 0xFF02 => s.sc ||| 0x7E#8
    | 0xFF04 => s.timer.div.extractLsb' 8 8
    | 0xFF05 => s.timer.tima
    | 0xFF06 => s.timer.tma
    | 0xFF07 => tacRead s.timer
    | 0xFF0F => 0b111#3 ++ s.ifl
    | 0xFF40 => s.ppu.lcdc
    | 0xFF41 => statRead s.ppu
    | 0xFF42 => s.ppu.scy
    | 0xFF43 => s.ppu.scx
    | 0xFF44 => s.ppu.ly
    | 0xFF45 => s.ppu.lyc
    | 0xFF46 => s.ppu.dmaReg
    | 0xFF47 => s.ppu.bgp
    | 0xFF48 => s.ppu.obp0
    | 0xFF49 => s.ppu.obp1
    | 0xFF4A => s.ppu.wy
    | 0xFF4B => s.ppu.wx
    | _ => 0xFF

/-- `MemRead(a, 1)`, the bus read (R70): it changes no state. -/
def read8 (a : Word) (s : State) : Byte :=
  let n := a.toNat
  match regionOf a with
  | .rom => bootOrRomRead n s
  | .vram => if vramOpen s.ppu then s.ppu.vram.read (n - 0x8000) else 0xFF
  | .xram => xramRead s.cart n
  | .wram => s.wram.read (n - 0xC000)
  | .echo => s.wram.read (n - 0xE000)
  | .oam => if oamOpen s.ppu then oamReadByte s.ppu (n - 0xFE00) else 0xFF
  | .unused => 0xFF
  | .io => ioRead n s
  | .hram => s.hram.read (n - 0xFF80)
  | .ie => 0b111#3 ++ s.ie

/-- `MemRead(a, 2)`: two byte reads, the lower address in bits 7:0 (R72). -/
def read16 (a : Word) (s : State) : Word := mkWord (read8 (a + 1) s) (read8 a s)

/-- The first `n` byte copies of OAM DMA from `base`, in ascending order (R101): the source through the bus, the destination
through the record accessor, not gated by MODE (R102). -/
def dmaCopy (base : Word) : Nat → State → State
  | 0, s => s
  | n + 1, s =>
    let t := dmaCopy base n s
    { t with ppu := oamWriteByte n (read8 (base + BitVec.ofNat 16 n) t) t.ppu }

/-- A write to the DMA trigger (R101): 160 bytes from `v * 256`, inside this write. -/
def dmaWrite (v : Byte) (s : State) : State :=
  dmaCopy (v ++ 0#8) 160 { s with ppu := { s.ppu with dmaReg := v } }

/-- A write of DIV, whose tick may overflow TIMA into IF bit 2 (60_exceptions.md R441). -/
def divStore (s : State) : State :=
  let r := divWrite s.timer
  { s with timer := r.1, ifl := if r.2 then s.ifl ||| 0b00100#5 else s.ifl }

/-- A write to 0xFF00-0xFF7F, by register (R90); an unimplemented or read-only address ignores it (R99, 62_ppu.md R475). -/
def ioWrite (a : Nat) (v : Byte) (s : State) : State :=
  if 0xFF10 ≤ a ∧ a < 0xFF40 then { s with snd := s.snd.write (a - 0xFF10) v }
  else match a with
    | 0xFF00 => { s with joypad := p1Write s.joypad v }
    | 0xFF01 => { s with sb := v }
    | 0xFF02 => { s with sc := v }
    | 0xFF04 => divStore s
    | 0xFF05 => { s with timer := { s.timer with tima := v } }
    | 0xFF06 => { s with timer := { s.timer with tma := v } }
    | 0xFF07 => { s with timer := tacWrite s.timer v }
    | 0xFF0F => { s with ifl := v.extractLsb' 0 5 }
    | 0xFF40 => { s with ppu := lcdcWrite s.ppu v }
    | 0xFF41 => { s with ppu := statWrite s.ppu v }
    | 0xFF42 => { s with ppu := { s.ppu with scy := v } }
    | 0xFF43 => { s with ppu := { s.ppu with scx := v } }
    | 0xFF45 => { s with ppu := { s.ppu with lyc := v } }
    | 0xFF46 => dmaWrite v s
    | 0xFF47 => { s with ppu := { s.ppu with bgp := v } }
    | 0xFF48 => { s with ppu := { s.ppu with obp0 := v } }
    | 0xFF49 => { s with ppu := { s.ppu with obp1 := v } }
    | 0xFF4A => { s with ppu := { s.ppu with wy := v } }
    | 0xFF4B => { s with ppu := { s.ppu with wx := v } }
    | 0xFF50 => { s with bootOff := s.bootOff || decide (v ≠ 0) }
    | _ => s

/-- `MemWrite(a, 1, v)`, the bus write (R71, R76). -/
def write8 (a : Word) (v : Byte) (s : State) : State :=
  let n := a.toNat
  match regionOf a with
  | .rom => { s with cart := bankControl s.cart n v }
  | .vram => if vramOpen s.ppu then { s with ppu := { s.ppu with vram := s.ppu.vram.write (n - 0x8000) v } } else s
  | .xram => { s with cart := xramWrite s.cart n v }
  | .wram => { s with wram := s.wram.write (n - 0xC000) v }
  | .echo => { s with wram := s.wram.write (n - 0xE000) v }
  | .oam => if oamOpen s.ppu then { s with ppu := oamWriteByte (n - 0xFE00) v s.ppu } else s
  | .unused => s
  | .io => ioWrite n v s
  | .hram => { s with hram := s.hram.write (n - 0xFF80) v }
  | .ie => { s with ie := v.extractLsb' 0 5 }

/-- `MemWrite(a, 2, v)`: low byte at `a`, then high byte at `a + 1` (R72). -/
def write16 (a : Word) (v : Word) (s : State) : State := write8 (a + 1) (hiByte v) (write8 a (loByte v) s)

/-- PC <- v. -/
def State.setPc (s : State) (v : Word) : State := { s with cpu := { s.cpu with pc := v } }

/-- SP <- v. -/
def State.setSp (s : State) (v : Word) : State := { s with cpu := { s.cpu with sp := v } }

/-- `push_pc(v)` and PUSH (45_control.md R360, 41_load16_stack.md R236): SP falls by 1 before each byte, high byte first. -/
def push16 (v : Word) (s : State) : State :=
  let s1 := s.setSp (s.cpu.sp - 1)
  let s2 := write8 s1.cpu.sp (hiByte v) s1
  let s3 := s2.setSp (s2.cpu.sp - 1)
  write8 s3.cpu.sp (loByte v) s3

/-- The word a pop at SP reads: low byte at SP, high byte at SP + 1 (R360). -/
def popValue (s : State) : Word := read16 s.cpu.sp s

/-- SP after a pop (R360). -/
def popSp (s : State) : State := s.setSp (s.cpu.sp + 2)

/-- Interrupt service (60_exceptions.md R414): IME cleared, PC pushed, PC at the vector. Its cost is `INT_CYCLES`. -/
def service (vector : Word) (s : State) : State :=
  let s1 := { s with cpu := { s.cpu with ime := false } }
  (push16 s1.cpu.pc s1).setPc vector

/-- The return of RET and RETI (R358): PC popped. -/
def popPc (s : State) : State := (popSp s).setPc (popValue s)

/-- The return from interrupt (45_control.md R361): PC popped, IME set at once, a pending enable cancelled. -/
def returnFromInterrupt (s : State) : State :=
  let t := popPc s
  { t with cpu := { t.cpu with ime := true, imePending := false } }

/-- `raise kind(address, value)` (60_exceptions.md R400): the FAULT record is written and no cycles are returned. -/
def raiseFault (kind : FaultKind) (address : Word) (value : Byte) (s : State) : State :=
  { s with fault := some { kind := kind, address := address, value := value }, cycles := 0 }

/-- An instruction completes, returning its cycle cost (R421 step 4). -/
def done (cost : Nat) (s : State) : Out := .next { s with cycles := cost }

end Sys2Proof.Machine
end

