-- ==== Sys2Proof/Machine/Flags.lean ====
section
/-!
DEFINITION. The flag register's packing (10_state.md R21) and every computation that gives a result together with flags
(42_alu8.md, 43_alu16.md, 44_rotate_shift_bit.md). Operands are read as unsigned integers, results are narrowed at the end (R9).
-/

namespace Sys2Proof.Machine

/-- `pack_F()` (R21): Z, N, H, C in bits 7..4, zeros below. -/
def packF (f : Flags) : Byte :=
  BitVec.ofBool f.z ++ (BitVec.ofBool f.n ++ (BitVec.ofBool f.h ++ (BitVec.ofBool f.c ++ 0#4)))

/-- `unpack_F(v)` (R21): bits 3:0 are discarded. -/
def unpackF (v : Byte) : Flags := { z := v.getLsbD 7, n := v.getLsbD 6, h := v.getLsbD 5, c := v.getLsbD 4 }

/-- `add8(a, b, cin)` (R251). -/
def add8 (a b : Byte) (cin : Bool) : Byte × Flags :=
  let s := a.toNat + b.toNat + cin.toNat
  let res := BitVec.ofNat 8 s
  (res, { z := decide (res = 0), n := false, h := decide (a.toNat % 16 + b.toNat % 16 + cin.toNat > 0xF), c := decide (s > 255) })

/-- `sub8(a, b, cin)` (R252). -/
def sub8 (a b : Byte) (cin : Bool) : Byte × Flags :=
  let res := BitVec.ofInt 8 ((a.toNat : Int) - b.toNat - cin.toNat)
  (res, { z := decide (res = 0), n := true, h := decide (a.toNat % 16 < b.toNat % 16 + cin.toNat), c := decide (a.toNat < b.toNat + cin.toNat) })

/-- The flags of AND, XOR and OR: Z from the result, H as given, N and C clear (R265, R268, R271). -/
def logicFlags (res : Byte) (h : Bool) : Flags := { z := decide (res = 0), n := false, h := h, c := false }

/-- `ALU[y] A,b`: the new A and flags; CP leaves A (R253 to R276). `f` supplies the carry-in of ADC and SBC. -/
def alu (op : AluOp) (a b : Byte) (f : Flags) : Byte × Flags :=
  match op with
  | .add => add8 a b false
  | .adc => add8 a b f.c
  | .sub => sub8 a b false
  | .sbc => sub8 a b f.c
  | .and => (a &&& b, logicFlags (a &&& b) true)
  | .xor => (a ^^^ b, logicFlags (a ^^^ b) false)
  | .or => (a ||| b, logicFlags (a ||| b) false)
  | .cp => (a, (sub8 a b false).2)

/-- 8-bit INC: carry untouched (R277). -/
def inc8 (old : Byte) (f : Flags) : Byte × Flags :=
  let res := old + 1
  (res, { f with z := decide (res = 0), n := false, h := decide (old.toNat % 16 = 0xF) })

/-- 8-bit DEC: carry untouched (R279). -/
def dec8 (old : Byte) (f : Flags) : Byte × Flags :=
  let res := old - 1
  (res, { f with z := decide (res = 0), n := true, h := decide (old.toNat % 16 = 0) })

/-- The correction DAA applies (R281): its low and its high half. -/
def daaAdjust (a : Byte) (f : Flags) : Byte :=
  if f.n then (if f.h then 0x06#8 else 0) ||| (if f.c then 0x60#8 else 0)
  else (if f.h || decide (a.toNat % 16 > 0x09) then 0x06#8 else 0) ||| (if f.c || decide (a.toNat > 0x99) then 0x60#8 else 0)

/-- `DAA` (R281): the corrected A and the flags; N is left, a subtraction never sets C. -/
def daa (a : Byte) (f : Flags) : Byte × Flags :=
  let res := if f.n then a - daaAdjust a f else a + daaAdjust a f
  (res, { z := decide (res = 0), n := f.n, h := false, c := f.c || (!f.n && decide (a.toNat > 0x99)) })

/-- The 16-bit addition of `ADD HL,rr`: H out of bit 11, C out of bit 15, Z untouched (R300). -/
def add16 (a b : Word) (f : Flags) : Word × Flags :=
  let s := a.toNat + b.toNat
  (BitVec.ofNat 16 s, { f with n := false, h := decide (a.toNat % 0x1000 + b.toNat % 0x1000 > 0x0FFF), c := decide (s > 0xFFFF) })

/-- `sp_plus_e(sp, e)` with Z = N = 0 (R304, R303, R233): H and C out of bits 3 and 7 of the unsigned low-byte addition. -/
def spPlusE (sp : Word) (e : Byte) : Word × Flags :=
  (sp + sext16 e,
    { z := false, n := false, h := decide (sp.toNat % 16 + e.toNat % 16 > 0x0F), c := decide (sp.toNat % 256 + e.toNat > 0xFF) })

/-- The eight rotates and shifts: result and carry-out (R314). -/
def rot (op : RotOp) (v : Byte) (cin : Bool) : Byte × Bool :=
  match op with
  | .rlc => (v.extractLsb' 0 7 ++ BitVec.ofBool (v.getLsbD 7), v.getLsbD 7)
  | .rrc => (BitVec.ofBool (v.getLsbD 0) ++ v.extractLsb' 1 7, v.getLsbD 0)
  | .rl => (v.extractLsb' 0 7 ++ BitVec.ofBool cin, v.getLsbD 7)
  | .rr => (BitVec.ofBool cin ++ v.extractLsb' 1 7, v.getLsbD 0)
  | .sla => (v.extractLsb' 0 7 ++ 0#1, v.getLsbD 7)
  | .sra => (BitVec.ofBool (v.getLsbD 7) ++ v.extractLsb' 1 7, v.getLsbD 0)
  | .swap => (v.extractLsb' 0 4 ++ v.extractLsb' 4 4, false)
  | .srl => (0#1 ++ v.extractLsb' 1 7, v.getLsbD 0)

/-- The flags of the extended rotates and shifts (R314). -/
def rotFlags (res : Byte) (c : Bool) : Flags := { z := decide (res = 0), n := false, h := false, c := c }

/-- The flags of RLCA, RRCA, RLA and RRA, which always clear Z (R314). -/
def rotAFlags (c : Bool) : Flags := { z := false, n := false, h := false, c := c }

/-- The flags of BIT: Z when the tested bit is 0, N clear, H set, C untouched (R331). -/
def bitFlags (v : Byte) (b : Fin 8) (f : Flags) : Flags := { f with z := !v.getLsbD b.val, n := false, h := true }

end Sys2Proof.Machine
end

