-- ==== Sys2Proof/Machine/Operands.lean ====
section
/-!
DEFINITION. The operand forms: the 8-bit registers (30_encoding.md R164), the pairs (R165, 10_state.md R22), the flags and the
conditions (45_control.md R350). The memory forms are `read8` and `write8` of Machine/Ops.lean at the address an instruction forms.
-/

namespace Sys2Proof.Machine

/-- `R[i]` for a register (R164). -/
def State.reg (s : State) : Reg8 → Byte
  | .B => s.cpu.b
  | .C => s.cpu.c
  | .D => s.cpu.d
  | .E => s.cpu.e
  | .H => s.cpu.h
  | .L => s.cpu.l
  | .A => s.cpu.a

/-- `R[i] <- v` for a register (R164). -/
def State.setReg (s : State) (r : Reg8) (v : Byte) : State :=
  match r with
  | .B => { s with cpu := { s.cpu with b := v } }
  | .C => { s with cpu := { s.cpu with c := v } }
  | .D => { s with cpu := { s.cpu with d := v } }
  | .E => { s with cpu := { s.cpu with e := v } }
  | .H => { s with cpu := { s.cpu with h := v } }
  | .L => { s with cpu := { s.cpu with l := v } }
  | .A => { s with cpu := { s.cpu with a := v } }

/-- The four flags. -/
def State.flags (s : State) : Flags := s.cpu.f

/-- The four flags <- f. -/
def State.setFlags (s : State) (f : Flags) : State := { s with cpu := { s.cpu with f := f } }

/-- `RP[p]` (R165, R22). -/
def State.pair (s : State) : Pair → Word
  | .BC => mkWord s.cpu.b s.cpu.c
  | .DE => mkWord s.cpu.d s.cpu.e
  | .HL => mkWord s.cpu.h s.cpu.l
  | .SP => s.cpu.sp

/-- `RP[p] <- v` (R165, R22). -/
def State.setPair (s : State) (p : Pair) (v : Word) : State :=
  match p with
  | .BC => { s with cpu := { s.cpu with b := hiByte v, c := loByte v } }
  | .DE => { s with cpu := { s.cpu with d := hiByte v, e := loByte v } }
  | .HL => { s with cpu := { s.cpu with h := hiByte v, l := loByte v } }
  | .SP => s.setSp v

/-- `RP2[p]` (R165): AF is `{A, pack_F()}` (R22). -/
def State.stackPair (s : State) : StackPair → Word
  | .BC => s.pair .BC
  | .DE => s.pair .DE
  | .HL => s.pair .HL
  | .AF => mkWord s.cpu.a (packF s.cpu.f)

/-- `RP2[p] <- v` (R165): writing AF unpacks the flags from the low byte (R22). -/
def State.setStackPair (s : State) (p : StackPair) (v : Word) : State :=
  match p with
  | .BC => s.setPair .BC v
  | .DE => s.setPair .DE v
  | .HL => s.setPair .HL v
  | .AF => { s with cpu := { s.cpu with a := hiByte v, f := unpackF (loByte v) } }

/-- `CC[c]` (R350). -/
def condHolds (c : Cond) (f : Flags) : Bool :=
  match c with
  | .NZ => !f.z
  | .Z => f.z
  | .NC => !f.c
  | .C => f.c

/-- The byte at HL: `R[6]` read (R10, R164). -/
def State.atHL (s : State) : Byte := read8 (s.pair .HL) s

/-- `R[6] <- v`: a bus write at HL (R10, R164). -/
def State.setAtHL (s : State) (v : Byte) : State := write8 (s.pair .HL) v s

end Sys2Proof.Machine
end

