-- ==== Sys2Proof/Machine/Alu16.lean ====
section
/-!
DEFINITION. 16-bit arithmetic (43_alu16.md R300 to R304).
-/

namespace Sys2Proof.Machine

/-- `ADD HL,rr` (R300). -/
def addHl (p : Pair) (s : State) : Out :=
  let x := add16 (s.pair .HL) (s.pair p) s.flags
  done 8 ((s.setPair .HL x.1).setFlags x.2)

/-- `INC rr` (R301): no flag. -/
def incPair (p : Pair) (s : State) : Out := done 8 (s.setPair p (s.pair p + 1))

/-- `DEC rr` (R302): no flag. -/
def decPair (p : Pair) (s : State) : Out := done 8 (s.setPair p (s.pair p - 1))

/-- `ADD SP,e` (R303). -/
def addSpE (e : Byte) (s : State) : Out :=
  let x := spPlusE s.cpu.sp e
  done 16 ((s.setSp x.1).setFlags x.2)

/-! One meaning per row of the opcode table. -/

/-- `INC BC` (R301). -/
def execInc_BC (s : State) : Out := incPair .BC s

/-- `ADD HL,BC` (R300). -/
def execAdd_HL_BC (s : State) : Out := addHl .BC s

/-- `DEC BC` (R302). -/
def execDec_BC (s : State) : Out := decPair .BC s

/-- `INC DE` (R301). -/
def execInc_DE (s : State) : Out := incPair .DE s

/-- `ADD HL,DE` (R300). -/
def execAdd_HL_DE (s : State) : Out := addHl .DE s

/-- `DEC DE` (R302). -/
def execDec_DE (s : State) : Out := decPair .DE s

/-- `INC HL` (R301). -/
def execInc_HL (s : State) : Out := incPair .HL s

/-- `ADD HL,HL` (R300). -/
def execAdd_HL_HL (s : State) : Out := addHl .HL s

/-- `DEC HL` (R302). -/
def execDec_HL (s : State) : Out := decPair .HL s

/-- `INC SP` (R301). -/
def execInc_SP (s : State) : Out := incPair .SP s

/-- `ADD HL,SP` (R300). -/
def execAdd_HL_SP (s : State) : Out := addHl .SP s

/-- `DEC SP` (R302). -/
def execDec_SP (s : State) : Out := decPair .SP s

/-- `ADD SP,e` (R303). -/
def execAdd_SP_e (e : Byte) (s : State) : Out := addSpE e s

end Sys2Proof.Machine
end

