-- ==== Sys2Proof/Machine/Alu8.lean ====
section
/-!
DEFINITION. 8-bit arithmetic and logic (42_alu8.md R250 to R285). The results and flags are those of Machine/Flags.lean.
-/

namespace Sys2Proof.Machine

/-- `ALU[y] A,b` (R250): the result to A (CP keeps it), the flags written. -/
def aluWith (op : AluOp) (b : Byte) (cost : Nat) (s : State) : Out :=
  let r := alu op s.cpu.a b s.flags
  done cost ((s.setReg .A r.1).setFlags r.2)

/-- The `r` forms (R250). -/
def aluReg (op : AluOp) (r : Reg8) (s : State) : Out := aluWith op (s.reg r) 4 s

/-- The `(HL)` forms (R250). -/
def aluAtHL (op : AluOp) (s : State) : Out := aluWith op s.atHL 8 s

/-- The `n` forms (R250). -/
def aluN (op : AluOp) (n : Byte) (s : State) : Out := aluWith op n 8 s

/-- `INC r` (R277). -/
def incReg (r : Reg8) (s : State) : Out :=
  let x := inc8 (s.reg r) s.flags
  done 4 ((s.setReg r x.1).setFlags x.2)

/-- `DEC r` (R279). -/
def decReg (r : Reg8) (s : State) : Out :=
  let x := dec8 (s.reg r) s.flags
  done 4 ((s.setReg r x.1).setFlags x.2)

/-- `INC (HL)` (R278): the flags come from the value read and the value written, whether or not the bus keeps it. -/
def incAtHL (s : State) : Out :=
  let x := inc8 s.atHL s.flags
  done 12 ((s.setAtHL x.1).setFlags x.2)

/-- `DEC (HL)` (R280). -/
def decAtHL (s : State) : Out :=
  let x := dec8 s.atHL s.flags
  done 12 ((s.setAtHL x.1).setFlags x.2)

/-- `DAA` (R281). -/
def decimalAdjust (s : State) : Out :=
  let x := daa s.cpu.a s.flags
  done 4 ((s.setReg .A x.1).setFlags x.2)

/-- `CPL` (R282). -/
def complementA (s : State) : Out :=
  done 4 ((s.setReg .A (s.cpu.a ^^^ 0xFF)).setFlags { s.flags with n := true, h := true })

/-- `SCF` (R283). -/
def setCarry (s : State) : Out := done 4 (s.setFlags { s.flags with n := false, h := false, c := true })

/-- `CCF` (R284). -/
def complementCarry (s : State) : Out := done 4 (s.setFlags { s.flags with n := false, h := false, c := !s.flags.c })

/-! One meaning per row of the opcode table. -/

/-- `INC B` (R277). -/
def execInc_B (s : State) : Out := incReg .B s

/-- `DEC B` (R279). -/
def execDec_B (s : State) : Out := decReg .B s

/-- `INC C` (R277). -/
def execInc_C (s : State) : Out := incReg .C s

/-- `DEC C` (R279). -/
def execDec_C (s : State) : Out := decReg .C s

/-- `INC D` (R277). -/
def execInc_D (s : State) : Out := incReg .D s

/-- `DEC D` (R279). -/
def execDec_D (s : State) : Out := decReg .D s

/-- `INC E` (R277). -/
def execInc_E (s : State) : Out := incReg .E s

/-- `DEC E` (R279). -/
def execDec_E (s : State) : Out := decReg .E s

/-- `INC H` (R277). -/
def execInc_H (s : State) : Out := incReg .H s

/-- `DEC H` (R279). -/
def execDec_H (s : State) : Out := decReg .H s

/-- `DAA` (R281). -/
def execDaa (s : State) : Out := decimalAdjust s

/-- `INC L` (R277). -/
def execInc_L (s : State) : Out := incReg .L s

/-- `DEC L` (R279). -/
def execDec_L (s : State) : Out := decReg .L s

/-- `CPL` (R282). -/
def execCpl (s : State) : Out := complementA s

/-- `INC (HL)` (R278). -/
def execInc_atHL (s : State) : Out := incAtHL s

/-- `DEC (HL)` (R280). -/
def execDec_atHL (s : State) : Out := decAtHL s

/-- `SCF` (R283). -/
def execScf (s : State) : Out := setCarry s

/-- `INC A` (R277). -/
def execInc_A (s : State) : Out := incReg .A s

/-- `DEC A` (R279). -/
def execDec_A (s : State) : Out := decReg .A s

/-- `CCF` (R284). -/
def execCcf (s : State) : Out := complementCarry s

/-- `ADD A,B` (R253). -/
def execAdd_A_B (s : State) : Out := aluReg .add .B s

/-- `ADD A,C` (R253). -/
def execAdd_A_C (s : State) : Out := aluReg .add .C s

/-- `ADD A,D` (R253). -/
def execAdd_A_D (s : State) : Out := aluReg .add .D s

/-- `ADD A,E` (R253). -/
def execAdd_A_E (s : State) : Out := aluReg .add .E s

/-- `ADD A,H` (R253). -/
def execAdd_A_H (s : State) : Out := aluReg .add .H s

/-- `ADD A,L` (R253). -/
def execAdd_A_L (s : State) : Out := aluReg .add .L s

/-- `ADD A,(HL)` (R254). -/
def execAdd_A_atHL (s : State) : Out := aluAtHL .add s

/-- `ADD A,A` (R253). -/
def execAdd_A_A (s : State) : Out := aluReg .add .A s

/-- `ADC A,B` (R256). -/
def execAdc_A_B (s : State) : Out := aluReg .adc .B s

/-- `ADC A,C` (R256). -/
def execAdc_A_C (s : State) : Out := aluReg .adc .C s

/-- `ADC A,D` (R256). -/
def execAdc_A_D (s : State) : Out := aluReg .adc .D s

/-- `ADC A,E` (R256). -/
def execAdc_A_E (s : State) : Out := aluReg .adc .E s

/-- `ADC A,H` (R256). -/
def execAdc_A_H (s : State) : Out := aluReg .adc .H s

/-- `ADC A,L` (R256). -/
def execAdc_A_L (s : State) : Out := aluReg .adc .L s

/-- `ADC A,(HL)` (R257). -/
def execAdc_A_atHL (s : State) : Out := aluAtHL .adc s

/-- `ADC A,A` (R256). -/
def execAdc_A_A (s : State) : Out := aluReg .adc .A s

/-- `SUB B` (R259). -/
def execSub_B (s : State) : Out := aluReg .sub .B s

/-- `SUB C` (R259). -/
def execSub_C (s : State) : Out := aluReg .sub .C s

/-- `SUB D` (R259). -/
def execSub_D (s : State) : Out := aluReg .sub .D s

/-- `SUB E` (R259). -/
def execSub_E (s : State) : Out := aluReg .sub .E s

/-- `SUB H` (R259). -/
def execSub_H (s : State) : Out := aluReg .sub .H s

/-- `SUB L` (R259). -/
def execSub_L (s : State) : Out := aluReg .sub .L s

/-- `SUB (HL)` (R260). -/
def execSub_atHL (s : State) : Out := aluAtHL .sub s

/-- `SUB A` (R259). -/
def execSub_A (s : State) : Out := aluReg .sub .A s

/-- `SBC A,B` (R262). -/
def execSbc_A_B (s : State) : Out := aluReg .sbc .B s

/-- `SBC A,C` (R262). -/
def execSbc_A_C (s : State) : Out := aluReg .sbc .C s

/-- `SBC A,D` (R262). -/
def execSbc_A_D (s : State) : Out := aluReg .sbc .D s

/-- `SBC A,E` (R262). -/
def execSbc_A_E (s : State) : Out := aluReg .sbc .E s

/-- `SBC A,H` (R262). -/
def execSbc_A_H (s : State) : Out := aluReg .sbc .H s

/-- `SBC A,L` (R262). -/
def execSbc_A_L (s : State) : Out := aluReg .sbc .L s

/-- `SBC A,(HL)` (R263). -/
def execSbc_A_atHL (s : State) : Out := aluAtHL .sbc s

/-- `SBC A,A` (R262). -/
def execSbc_A_A (s : State) : Out := aluReg .sbc .A s

/-- `AND B` (R265). -/
def execAnd_B (s : State) : Out := aluReg .and .B s

/-- `AND C` (R265). -/
def execAnd_C (s : State) : Out := aluReg .and .C s

/-- `AND D` (R265). -/
def execAnd_D (s : State) : Out := aluReg .and .D s

/-- `AND E` (R265). -/
def execAnd_E (s : State) : Out := aluReg .and .E s

/-- `AND H` (R265). -/
def execAnd_H (s : State) : Out := aluReg .and .H s

/-- `AND L` (R265). -/
def execAnd_L (s : State) : Out := aluReg .and .L s

/-- `AND (HL)` (R266). -/
def execAnd_atHL (s : State) : Out := aluAtHL .and s

/-- `AND A` (R265). -/
def execAnd_A (s : State) : Out := aluReg .and .A s

/-- `XOR B` (R268). -/
def execXor_B (s : State) : Out := aluReg .xor .B s

/-- `XOR C` (R268). -/
def execXor_C (s : State) : Out := aluReg .xor .C s

/-- `XOR D` (R268). -/
def execXor_D (s : State) : Out := aluReg .xor .D s

/-- `XOR E` (R268). -/
def execXor_E (s : State) : Out := aluReg .xor .E s

/-- `XOR H` (R268). -/
def execXor_H (s : State) : Out := aluReg .xor .H s

/-- `XOR L` (R268). -/
def execXor_L (s : State) : Out := aluReg .xor .L s

/-- `XOR (HL)` (R269). -/
def execXor_atHL (s : State) : Out := aluAtHL .xor s

/-- `XOR A` (R268). -/
def execXor_A (s : State) : Out := aluReg .xor .A s

/-- `OR B` (R271). -/
def execOr_B (s : State) : Out := aluReg .or .B s

/-- `OR C` (R271). -/
def execOr_C (s : State) : Out := aluReg .or .C s

/-- `OR D` (R271). -/
def execOr_D (s : State) : Out := aluReg .or .D s

/-- `OR E` (R271). -/
def execOr_E (s : State) : Out := aluReg .or .E s

/-- `OR H` (R271). -/
def execOr_H (s : State) : Out := aluReg .or .H s

/-- `OR L` (R271). -/
def execOr_L (s : State) : Out := aluReg .or .L s

/-- `OR (HL)` (R272). -/
def execOr_atHL (s : State) : Out := aluAtHL .or s

/-- `OR A` (R271). -/
def execOr_A (s : State) : Out := aluReg .or .A s

/-- `CP B` (R274). -/
def execCp_B (s : State) : Out := aluReg .cp .B s

/-- `CP C` (R274). -/
def execCp_C (s : State) : Out := aluReg .cp .C s

/-- `CP D` (R274). -/
def execCp_D (s : State) : Out := aluReg .cp .D s

/-- `CP E` (R274). -/
def execCp_E (s : State) : Out := aluReg .cp .E s

/-- `CP H` (R274). -/
def execCp_H (s : State) : Out := aluReg .cp .H s

/-- `CP L` (R274). -/
def execCp_L (s : State) : Out := aluReg .cp .L s

/-- `CP (HL)` (R275). -/
def execCp_atHL (s : State) : Out := aluAtHL .cp s

/-- `CP A` (R274). -/
def execCp_A (s : State) : Out := aluReg .cp .A s

/-- `ADD A,n` (R255). -/
def execAdd_A_n (n : Byte) (s : State) : Out := aluN .add n s

/-- `ADC A,n` (R258). -/
def execAdc_A_n (n : Byte) (s : State) : Out := aluN .adc n s

/-- `SUB n` (R261). -/
def execSub_n (n : Byte) (s : State) : Out := aluN .sub n s

/-- `SBC A,n` (R264). -/
def execSbc_A_n (n : Byte) (s : State) : Out := aluN .sbc n s

/-- `AND n` (R267). -/
def execAnd_n (n : Byte) (s : State) : Out := aluN .and n s

/-- `XOR n` (R270). -/
def execXor_n (n : Byte) (s : State) : Out := aluN .xor n s

/-- `OR n` (R273). -/
def execOr_n (n : Byte) (s : State) : Out := aluN .or n s

/-- `CP n` (R276). -/
def execCp_n (n : Byte) (s : State) : Out := aluN .cp n s

end Sys2Proof.Machine
end

