-- ==== Sys2Proof/Machine/Control.lean ====
section
/-!
DEFINITION. Control transfer (45_control.md R350 to R363). PC is past the operand; a conditional form's cost depends on whether it is taken.
-/

namespace Sys2Proof.Machine

/-- `PC <- a` (R351, R353). -/
def jump (a : Word) (cost : Nat) (s : State) : Out := done cost (s.setPc a)

/-- `JP cc,nn` (R352). -/
def jumpIf (c : Cond) (nn : Word) (s : State) : Out := if condHolds c s.flags then jump nn 16 s else done 12 s

/-- `PC <- PC + sext_16(e)` modulo 65536 (R354). -/
def jumpRelative (e : Byte) (cost : Nat) (s : State) : Out := jump (s.cpu.pc + sext16 e) cost s

/-- `JR cc,e` (R355). -/
def jumpRelativeIf (c : Cond) (e : Byte) (s : State) : Out := if condHolds c s.flags then jumpRelative e 12 s else done 8 s

/-- `push_pc(PC); PC <- a` (R356, R362). -/
def callTo (a : Word) (cost : Nat) (s : State) : Out := done cost ((push16 s.cpu.pc s).setPc a)

/-- `CALL cc,nn` (R357). -/
def callIf (c : Cond) (nn : Word) (s : State) : Out := if condHolds c s.flags then callTo nn 24 s else done 12 s

/-- `PC <- pop_pc()` (R358). -/
def returnTo (cost : Nat) (s : State) : Out := done cost (popPc s)

/-- `RET cc` (R359). -/
def returnIf (c : Cond) (s : State) : Out := if condHolds c s.flags then returnTo 20 s else done 8 s

/-- `RETI` (R361). -/
def returnAndEnable (s : State) : Out := done 16 (returnFromInterrupt s)

/-- The address `y * 8` of a restart (R362). -/
def restartTarget (y : Fin 8) : Word := BitVec.ofNat 16 (y.val * 8)

/-- `RST t` (R362). -/
def restart (y : Fin 8) (s : State) : Out := callTo (restartTarget y) 16 s

/-! One meaning per row of the opcode table. -/

/-- `JR e` (R354). -/
def execJr_e (e : Byte) (s : State) : Out := jumpRelative e 12 s

/-- `JR NZ,e` (R355). -/
def execJr_NZ_e (e : Byte) (s : State) : Out := jumpRelativeIf .NZ e s

/-- `JR Z,e` (R355). -/
def execJr_Z_e (e : Byte) (s : State) : Out := jumpRelativeIf .Z e s

/-- `JR NC,e` (R355). -/
def execJr_NC_e (e : Byte) (s : State) : Out := jumpRelativeIf .NC e s

/-- `JR C,e` (R355). -/
def execJr_C_e (e : Byte) (s : State) : Out := jumpRelativeIf .C e s

/-- `RET NZ` (R359). -/
def execRet_NZ (s : State) : Out := returnIf .NZ s

/-- `JP NZ,nn` (R352). -/
def execJp_NZ_nn (nn : Word) (s : State) : Out := jumpIf .NZ nn s

/-- `JP nn` (R351). -/
def execJp_nn (nn : Word) (s : State) : Out := jump nn 16 s

/-- `CALL NZ,nn` (R357). -/
def execCall_NZ_nn (nn : Word) (s : State) : Out := callIf .NZ nn s

/-- `RST 0x00` (R362). -/
def execRst_00 (s : State) : Out := restart 0 s

/-- `RET Z` (R359). -/
def execRet_Z (s : State) : Out := returnIf .Z s

/-- `RET` (R358). -/
def execRet (s : State) : Out := returnTo 16 s

/-- `JP Z,nn` (R352). -/
def execJp_Z_nn (nn : Word) (s : State) : Out := jumpIf .Z nn s

/-- `CALL Z,nn` (R357). -/
def execCall_Z_nn (nn : Word) (s : State) : Out := callIf .Z nn s

/-- `CALL nn` (R356). -/
def execCall_nn (nn : Word) (s : State) : Out := callTo nn 24 s

/-- `RST 0x08` (R362). -/
def execRst_08 (s : State) : Out := restart 1 s

/-- `RET NC` (R359). -/
def execRet_NC (s : State) : Out := returnIf .NC s

/-- `JP NC,nn` (R352). -/
def execJp_NC_nn (nn : Word) (s : State) : Out := jumpIf .NC nn s

/-- `CALL NC,nn` (R357). -/
def execCall_NC_nn (nn : Word) (s : State) : Out := callIf .NC nn s

/-- `RST 0x10` (R362). -/
def execRst_10 (s : State) : Out := restart 2 s

/-- `RET C` (R359). -/
def execRet_C (s : State) : Out := returnIf .C s

/-- `RETI` (R361). -/
def execReti (s : State) : Out := returnAndEnable s

/-- `JP C,nn` (R352). -/
def execJp_C_nn (nn : Word) (s : State) : Out := jumpIf .C nn s

/-- `CALL C,nn` (R357). -/
def execCall_C_nn (nn : Word) (s : State) : Out := callIf .C nn s

/-- `RST 0x18` (R362). -/
def execRst_18 (s : State) : Out := restart 3 s

/-- `RST 0x20` (R362). -/
def execRst_20 (s : State) : Out := restart 4 s

/-- `JP HL` (R353). -/
def execJp_HL (s : State) : Out := jump (s.pair .HL) 4 s

/-- `RST 0x28` (R362). -/
def execRst_28 (s : State) : Out := restart 5 s

/-- `RST 0x30` (R362). -/
def execRst_30 (s : State) : Out := restart 6 s

/-- `RST 0x38` (R362). -/
def execRst_38 (s : State) : Out := restart 7 s

end Sys2Proof.Machine
end

