-- ==== Sys2Proof/Machine/Load16.lean ====
section
/-!
DEFINITION. 16-bit loads and the stack (41_load16_stack.md R230 to R239).
-/

namespace Sys2Proof.Machine

/-- `RP[p] <- nn` (R230). -/
def loadPairNN (p : Pair) (nn : Word) (s : State) : Out := done 12 (s.setPair p nn)

/-- `MemWrite(nn, 2, SP)` (R231). -/
def storeSp (nn : Word) (s : State) : Out := done 20 (write16 nn s.cpu.sp s)

/-- `SP <- HL` (R232). -/
def loadSpHl (s : State) : Out := done 8 (s.setSp (s.pair .HL))

/-- `HL <- SP + e` with the flags of R304 (R233). -/
def loadHlSpE (e : Byte) (s : State) : Out :=
  let r := spPlusE s.cpu.sp e
  done 12 ((s.setPair .HL r.1).setFlags r.2)

/-- PUSH (R236). -/
def pushPair (p : StackPair) (s : State) : Out := done 16 (push16 (s.stackPair p) s)

/-- POP (R237, R238). -/
def popPair (p : StackPair) (s : State) : Out := done 12 ((popSp s).setStackPair p (popValue s))

/-! One meaning per row of the opcode table. -/

/-- `LD BC,nn` (R230). -/
def execLd_BC_nn (nn : Word) (s : State) : Out := loadPairNN .BC nn s

/-- `LD (nn),SP` (R231). -/
def execLd_atnn_SP (nn : Word) (s : State) : Out := storeSp nn s

/-- `LD DE,nn` (R230). -/
def execLd_DE_nn (nn : Word) (s : State) : Out := loadPairNN .DE nn s

/-- `LD HL,nn` (R230). -/
def execLd_HL_nn (nn : Word) (s : State) : Out := loadPairNN .HL nn s

/-- `LD SP,nn` (R230). -/
def execLd_SP_nn (nn : Word) (s : State) : Out := loadPairNN .SP nn s

/-- `POP BC` (R237). -/
def execPop_BC (s : State) : Out := popPair .BC s

/-- `PUSH BC` (R236). -/
def execPush_BC (s : State) : Out := pushPair .BC s

/-- `POP DE` (R237). -/
def execPop_DE (s : State) : Out := popPair .DE s

/-- `PUSH DE` (R236). -/
def execPush_DE (s : State) : Out := pushPair .DE s

/-- `POP HL` (R237). -/
def execPop_HL (s : State) : Out := popPair .HL s

/-- `PUSH HL` (R236). -/
def execPush_HL (s : State) : Out := pushPair .HL s

/-- `POP AF` (R238). -/
def execPop_AF (s : State) : Out := popPair .AF s

/-- `PUSH AF` (R236). -/
def execPush_AF (s : State) : Out := pushPair .AF s

/-- `LD HL,SP+e` (R233). -/
def execLd_HL_SPe (e : Byte) (s : State) : Out := loadHlSpE e s

/-- `LD SP,HL` (R232). -/
def execLd_SP_HL (s : State) : Out := loadSpHl s

end Sys2Proof.Machine
end

