-- ==== Sys2Proof/Machine/Load8.lean ====
section
/-!
DEFINITION. 8-bit loads (40_load8.md R200 to R219): shared operations over the operand forms, then one meaning per row. No load writes a
flag (R219); every memory access is one byte through the bus.
-/

namespace Sys2Proof.Machine

/-- `R[y] <- R[z]` (R200). -/
def loadRegReg (d r : Reg8) (s : State) : Out := done 4 (s.setReg d (s.reg r))

/-- `R[y] <- n` (R201). -/
def loadRegN (d : Reg8) (n : Byte) (s : State) : Out := done 8 (s.setReg d n)

/-- `R[y] <- MemRead(HL, 1)` (R202): the address is formed before the register is written. -/
def loadRegAtHL (d : Reg8) (s : State) : Out := done 8 (s.setReg d s.atHL)

/-- `MemWrite(HL, 1, v)` (R203, R204). -/
def storeAtHL (v : Byte) (cost : Nat) (s : State) : Out := done cost (s.setAtHL v)

/-- `A <- MemRead(a, 1)` (R205, R206, R209, R211, R213). -/
def loadA (a : Word) (cost : Nat) (s : State) : Out := done cost (s.setReg .A (read8 a s))

/-- `MemWrite(a, 1, A)` (R207, R208, R210, R212, R214). -/
def storeA (a : Word) (cost : Nat) (s : State) : Out := done cost (write8 a s.cpu.a s)

/-- `MemWrite(HL, 1, A)`, then HL moves by `step` modulo 65536 (R215, R216). -/
def storeAStep (step : Word) (s : State) : Out :=
  let t := write8 (s.pair .HL) s.cpu.a s
  done 8 (t.setPair .HL (t.pair .HL + step))

/-- `A <- MemRead(HL, 1)`, then HL moves by `step` modulo 65536 (R217, R218). -/
def loadAStep (step : Word) (s : State) : Out :=
  let t := s.setReg .A s.atHL
  done 8 (t.setPair .HL (t.pair .HL + step))

/-! One meaning per row of the opcode table. -/

/-- `LD (BC),A` (R207). -/
def execLd_atBC_A (s : State) : Out := storeA (s.pair .BC) 8 s

/-- `LD B,n` (R201). -/
def execLd_B_n (n : Byte) (s : State) : Out := loadRegN .B n s

/-- `LD A,(BC)` (R205). -/
def execLd_A_atBC (s : State) : Out := loadA (s.pair .BC) 8 s

/-- `LD C,n` (R201). -/
def execLd_C_n (n : Byte) (s : State) : Out := loadRegN .C n s

/-- `LD (DE),A` (R208). -/
def execLd_atDE_A (s : State) : Out := storeA (s.pair .DE) 8 s

/-- `LD D,n` (R201). -/
def execLd_D_n (n : Byte) (s : State) : Out := loadRegN .D n s

/-- `LD A,(DE)` (R206). -/
def execLd_A_atDE (s : State) : Out := loadA (s.pair .DE) 8 s

/-- `LD E,n` (R201). -/
def execLd_E_n (n : Byte) (s : State) : Out := loadRegN .E n s

/-- `LD (HL+),A` (R215). -/
def execLd_atHLinc_A (s : State) : Out := storeAStep 1 s

/-- `LD H,n` (R201). -/
def execLd_H_n (n : Byte) (s : State) : Out := loadRegN .H n s

/-- `LD A,(HL+)` (R217). -/
def execLd_A_atHLinc (s : State) : Out := loadAStep 1 s

/-- `LD L,n` (R201). -/
def execLd_L_n (n : Byte) (s : State) : Out := loadRegN .L n s

/-- `LD (HL-),A` (R216). -/
def execLd_atHLdec_A (s : State) : Out := storeAStep (-1) s

/-- `LD (HL),n` (R204). -/
def execLd_atHL_n (n : Byte) (s : State) : Out := storeAtHL n 12 s

/-- `LD A,(HL-)` (R218). -/
def execLd_A_atHLdec (s : State) : Out := loadAStep (-1) s

/-- `LD A,n` (R201). -/
def execLd_A_n (n : Byte) (s : State) : Out := loadRegN .A n s

/-- `LD B,B` (R200). -/
def execLd_B_B (s : State) : Out := loadRegReg .B .B s

/-- `LD B,C` (R200). -/
def execLd_B_C (s : State) : Out := loadRegReg .B .C s

/-- `LD B,D` (R200). -/
def execLd_B_D (s : State) : Out := loadRegReg .B .D s

/-- `LD B,E` (R200). -/
def execLd_B_E (s : State) : Out := loadRegReg .B .E s

/-- `LD B,H` (R200). -/
def execLd_B_H (s : State) : Out := loadRegReg .B .H s

/-- `LD B,L` (R200). -/
def execLd_B_L (s : State) : Out := loadRegReg .B .L s

/-- `LD B,(HL)` (R202). -/
def execLd_B_atHL (s : State) : Out := loadRegAtHL .B s

/-- `LD B,A` (R200). -/
def execLd_B_A (s : State) : Out := loadRegReg .B .A s

/-- `LD C,B` (R200). -/
def execLd_C_B (s : State) : Out := loadRegReg .C .B s

/-- `LD C,C` (R200). -/
def execLd_C_C (s : State) : Out := loadRegReg .C .C s

/-- `LD C,D` (R200). -/
def execLd_C_D (s : State) : Out := loadRegReg .C .D s

/-- `LD C,E` (R200). -/
def execLd_C_E (s : State) : Out := loadRegReg .C .E s

/-- `LD C,H` (R200). -/
def execLd_C_H (s : State) : Out := loadRegReg .C .H s

/-- `LD C,L` (R200). -/
def execLd_C_L (s : State) : Out := loadRegReg .C .L s

/-- `LD C,(HL)` (R202). -/
def execLd_C_atHL (s : State) : Out := loadRegAtHL .C s

/-- `LD C,A` (R200). -/
def execLd_C_A (s : State) : Out := loadRegReg .C .A s

/-- `LD D,B` (R200). -/
def execLd_D_B (s : State) : Out := loadRegReg .D .B s

/-- `LD D,C` (R200). -/
def execLd_D_C (s : State) : Out := loadRegReg .D .C s

/-- `LD D,D` (R200). -/
def execLd_D_D (s : State) : Out := loadRegReg .D .D s

/-- `LD D,E` (R200). -/
def execLd_D_E (s : State) : Out := loadRegReg .D .E s

/-- `LD D,H` (R200). -/
def execLd_D_H (s : State) : Out := loadRegReg .D .H s

/-- `LD D,L` (R200). -/
def execLd_D_L (s : State) : Out := loadRegReg .D .L s

/-- `LD D,(HL)` (R202). -/
def execLd_D_atHL (s : State) : Out := loadRegAtHL .D s

/-- `LD D,A` (R200). -/
def execLd_D_A (s : State) : Out := loadRegReg .D .A s

/-- `LD E,B` (R200). -/
def execLd_E_B (s : State) : Out := loadRegReg .E .B s

/-- `LD E,C` (R200). -/
def execLd_E_C (s : State) : Out := loadRegReg .E .C s

/-- `LD E,D` (R200). -/
def execLd_E_D (s : State) : Out := loadRegReg .E .D s

/-- `LD E,E` (R200). -/
def execLd_E_E (s : State) : Out := loadRegReg .E .E s

/-- `LD E,H` (R200). -/
def execLd_E_H (s : State) : Out := loadRegReg .E .H s

/-- `LD E,L` (R200). -/
def execLd_E_L (s : State) : Out := loadRegReg .E .L s

/-- `LD E,(HL)` (R202). -/
def execLd_E_atHL (s : State) : Out := loadRegAtHL .E s

/-- `LD E,A` (R200). -/
def execLd_E_A (s : State) : Out := loadRegReg .E .A s

/-- `LD H,B` (R200). -/
def execLd_H_B (s : State) : Out := loadRegReg .H .B s

/-- `LD H,C` (R200). -/
def execLd_H_C (s : State) : Out := loadRegReg .H .C s

/-- `LD H,D` (R200). -/
def execLd_H_D (s : State) : Out := loadRegReg .H .D s

/-- `LD H,E` (R200). -/
def execLd_H_E (s : State) : Out := loadRegReg .H .E s

/-- `LD H,H` (R200). -/
def execLd_H_H (s : State) : Out := loadRegReg .H .H s

/-- `LD H,L` (R200). -/
def execLd_H_L (s : State) : Out := loadRegReg .H .L s

/-- `LD H,(HL)` (R202). -/
def execLd_H_atHL (s : State) : Out := loadRegAtHL .H s

/-- `LD H,A` (R200). -/
def execLd_H_A (s : State) : Out := loadRegReg .H .A s

/-- `LD L,B` (R200). -/
def execLd_L_B (s : State) : Out := loadRegReg .L .B s

/-- `LD L,C` (R200). -/
def execLd_L_C (s : State) : Out := loadRegReg .L .C s

/-- `LD L,D` (R200). -/
def execLd_L_D (s : State) : Out := loadRegReg .L .D s

/-- `LD L,E` (R200). -/
def execLd_L_E (s : State) : Out := loadRegReg .L .E s

/-- `LD L,H` (R200). -/
def execLd_L_H (s : State) : Out := loadRegReg .L .H s

/-- `LD L,L` (R200). -/
def execLd_L_L (s : State) : Out := loadRegReg .L .L s

/-- `LD L,(HL)` (R202). -/
def execLd_L_atHL (s : State) : Out := loadRegAtHL .L s

/-- `LD L,A` (R200). -/
def execLd_L_A (s : State) : Out := loadRegReg .L .A s

/-- `LD (HL),B` (R203). -/
def execLd_atHL_B (s : State) : Out := storeAtHL (s.reg .B) 8 s

/-- `LD (HL),C` (R203). -/
def execLd_atHL_C (s : State) : Out := storeAtHL (s.reg .C) 8 s

/-- `LD (HL),D` (R203). -/
def execLd_atHL_D (s : State) : Out := storeAtHL (s.reg .D) 8 s

/-- `LD (HL),E` (R203). -/
def execLd_atHL_E (s : State) : Out := storeAtHL (s.reg .E) 8 s

/-- `LD (HL),H` (R203). -/
def execLd_atHL_H (s : State) : Out := storeAtHL (s.reg .H) 8 s

/-- `LD (HL),L` (R203). -/
def execLd_atHL_L (s : State) : Out := storeAtHL (s.reg .L) 8 s

/-- `LD (HL),A` (R203). -/
def execLd_atHL_A (s : State) : Out := storeAtHL (s.reg .A) 8 s

/-- `LD A,B` (R200). -/
def execLd_A_B (s : State) : Out := loadRegReg .A .B s

/-- `LD A,C` (R200). -/
def execLd_A_C (s : State) : Out := loadRegReg .A .C s

/-- `LD A,D` (R200). -/
def execLd_A_D (s : State) : Out := loadRegReg .A .D s

/-- `LD A,E` (R200). -/
def execLd_A_E (s : State) : Out := loadRegReg .A .E s

/-- `LD A,H` (R200). -/
def execLd_A_H (s : State) : Out := loadRegReg .A .H s

/-- `LD A,L` (R200). -/
def execLd_A_L (s : State) : Out := loadRegReg .A .L s

/-- `LD A,(HL)` (R202). -/
def execLd_A_atHL (s : State) : Out := loadRegAtHL .A s

/-- `LD A,A` (R200). -/
def execLd_A_A (s : State) : Out := loadRegReg .A .A s

/-- `LDH (n),A` (R212). -/
def execLdh_atn_A (n : Byte) (s : State) : Out := storeA (highPage n) 12 s

/-- `LDH (C),A` (R214). -/
def execLdh_atC_A (s : State) : Out := storeA (highPage s.cpu.c) 8 s

/-- `LD (nn),A` (R210). -/
def execLd_atnn_A (nn : Word) (s : State) : Out := storeA nn 16 s

/-- `LDH A,(n)` (R211). -/
def execLdh_A_atn (n : Byte) (s : State) : Out := loadA (highPage n) 12 s

/-- `LDH A,(C)` (R213). -/
def execLdh_A_atC (s : State) : Out := loadA (highPage s.cpu.c) 8 s

/-- `LD A,(nn)` (R209). -/
def execLd_A_atnn (nn : Word) (s : State) : Out := loadA nn 16 s

end Sys2Proof.Machine
end

