-- ==== Sys2Proof/Machine/RotBit.lean ====
section
/-!
DEFINITION. Rotates, shifts, SWAP and the bit operations (44_rotate_shift_bit.md R310 to R337). The costs include the prefix (R337).
-/

namespace Sys2Proof.Machine

/-- RLCA, RRCA, RLA, RRA (R310 to R313): Z always clear. -/
def rotA (op : RotOp) (s : State) : Out :=
  let x := rot op s.cpu.a s.flags.c
  done 4 ((s.setReg .A x.1).setFlags (rotAFlags x.2))

/-- `ROT[y] r` (R315 to R329). -/
def rotReg (op : RotOp) (r : Reg8) (s : State) : Out :=
  let x := rot op (s.reg r) s.flags.c
  done 8 ((s.setReg r x.1).setFlags (rotFlags x.1 x.2))

/-- `ROT[y] (HL)` (R316 to R330): the flags come from the computed result even if the bus drops the write. -/
def rotAtHL (op : RotOp) (s : State) : Out :=
  let x := rot op s.atHL s.flags.c
  done 16 ((s.setAtHL x.1).setFlags (rotFlags x.1 x.2))

/-- `BIT b,r` (R331). -/
def bitTestReg (b : Fin 8) (r : Reg8) (s : State) : Out := done 8 (s.setFlags (bitFlags (s.reg r) b s.flags))

/-- `BIT b,(HL)` (R332). -/
def bitTestAtHL (b : Fin 8) (s : State) : Out := done 12 (s.setFlags (bitFlags s.atHL b s.flags))

/-- `RES b,r` (R333). -/
def bitResetReg (b : Fin 8) (r : Reg8) (s : State) : Out := done 8 (s.setReg r (s.reg r &&& ~~~(bitMask b)))

/-- `RES b,(HL)` (R334). -/
def bitResetAtHL (b : Fin 8) (s : State) : Out := done 16 (s.setAtHL (s.atHL &&& ~~~(bitMask b)))

/-- `SET b,r` (R335). -/
def bitSetReg (b : Fin 8) (r : Reg8) (s : State) : Out := done 8 (s.setReg r (s.reg r ||| bitMask b))

/-- `SET b,(HL)` (R336). -/
def bitSetAtHL (b : Fin 8) (s : State) : Out := done 16 (s.setAtHL (s.atHL ||| bitMask b))

/-- The instruction of the extended space that op2 selects by its fields (46_system.md R376, 30_encoding.md R172). -/
def extended (op2 : Byte) (s : State) : Out :=
  let y := fieldY op2
  match fieldX op2, regField (fieldZ op2) with
  | 0, some r => rotReg (rotField y) r s
  | 0, none => rotAtHL (rotField y) s
  | 1, some r => bitTestReg y r s
  | 1, none => bitTestAtHL y s
  | 2, some r => bitResetReg y r s
  | 2, none => bitResetAtHL y s
  | 3, some r => bitSetReg y r s
  | 3, none => bitSetAtHL y s

/-! One meaning per row of the opcode table. -/

/-- `RLCA` (R310). -/
def execRlca (s : State) : Out := rotA .rlc s

/-- `RRCA` (R311). -/
def execRrca (s : State) : Out := rotA .rrc s

/-- `RLA` (R312). -/
def execRla (s : State) : Out := rotA .rl s

/-- `RRA` (R313). -/
def execRra (s : State) : Out := rotA .rr s

/-- `RLC B` (R315). -/
def execRlc_B (s : State) : Out := rotReg .rlc .B s

/-- `RLC C` (R315). -/
def execRlc_C (s : State) : Out := rotReg .rlc .C s

/-- `RLC D` (R315). -/
def execRlc_D (s : State) : Out := rotReg .rlc .D s

/-- `RLC E` (R315). -/
def execRlc_E (s : State) : Out := rotReg .rlc .E s

/-- `RLC H` (R315). -/
def execRlc_H (s : State) : Out := rotReg .rlc .H s

/-- `RLC L` (R315). -/
def execRlc_L (s : State) : Out := rotReg .rlc .L s

/-- `RLC (HL)` (R316). -/
def execRlc_atHL (s : State) : Out := rotAtHL .rlc s

/-- `RLC A` (R315). -/
def execRlc_A (s : State) : Out := rotReg .rlc .A s

/-- `RRC B` (R317). -/
def execRrc_B (s : State) : Out := rotReg .rrc .B s

/-- `RRC C` (R317). -/
def execRrc_C (s : State) : Out := rotReg .rrc .C s

/-- `RRC D` (R317). -/
def execRrc_D (s : State) : Out := rotReg .rrc .D s

/-- `RRC E` (R317). -/
def execRrc_E (s : State) : Out := rotReg .rrc .E s

/-- `RRC H` (R317). -/
def execRrc_H (s : State) : Out := rotReg .rrc .H s

/-- `RRC L` (R317). -/
def execRrc_L (s : State) : Out := rotReg .rrc .L s

/-- `RRC (HL)` (R318). -/
def execRrc_atHL (s : State) : Out := rotAtHL .rrc s

/-- `RRC A` (R317). -/
def execRrc_A (s : State) : Out := rotReg .rrc .A s

/-- `RL B` (R319). -/
def execRl_B (s : State) : Out := rotReg .rl .B s

/-- `RL C` (R319). -/
def execRl_C (s : State) : Out := rotReg .rl .C s

/-- `RL D` (R319). -/
def execRl_D (s : State) : Out := rotReg .rl .D s

/-- `RL E` (R319). -/
def execRl_E (s : State) : Out := rotReg .rl .E s

/-- `RL H` (R319). -/
def execRl_H (s : State) : Out := rotReg .rl .H s

/-- `RL L` (R319). -/
def execRl_L (s : State) : Out := rotReg .rl .L s

/-- `RL (HL)` (R320). -/
def execRl_atHL (s : State) : Out := rotAtHL .rl s

/-- `RL A` (R319). -/
def execRl_A (s : State) : Out := rotReg .rl .A s

/-- `RR B` (R321). -/
def execRr_B (s : State) : Out := rotReg .rr .B s

/-- `RR C` (R321). -/
def execRr_C (s : State) : Out := rotReg .rr .C s

/-- `RR D` (R321). -/
def execRr_D (s : State) : Out := rotReg .rr .D s

/-- `RR E` (R321). -/
def execRr_E (s : State) : Out := rotReg .rr .E s

/-- `RR H` (R321). -/
def execRr_H (s : State) : Out := rotReg .rr .H s

/-- `RR L` (R321). -/
def execRr_L (s : State) : Out := rotReg .rr .L s

/-- `RR (HL)` (R322). -/
def execRr_atHL (s : State) : Out := rotAtHL .rr s

/-- `RR A` (R321). -/
def execRr_A (s : State) : Out := rotReg .rr .A s

/-- `SLA B` (R323). -/
def execSla_B (s : State) : Out := rotReg .sla .B s

/-- `SLA C` (R323). -/
def execSla_C (s : State) : Out := rotReg .sla .C s

/-- `SLA D` (R323). -/
def execSla_D (s : State) : Out := rotReg .sla .D s

/-- `SLA E` (R323). -/
def execSla_E (s : State) : Out := rotReg .sla .E s

/-- `SLA H` (R323). -/
def execSla_H (s : State) : Out := rotReg .sla .H s

/-- `SLA L` (R323). -/
def execSla_L (s : State) : Out := rotReg .sla .L s

/-- `SLA (HL)` (R324). -/
def execSla_atHL (s : State) : Out := rotAtHL .sla s

/-- `SLA A` (R323). -/
def execSla_A (s : State) : Out := rotReg .sla .A s

/-- `SRA B` (R325). -/
def execSra_B (s : State) : Out := rotReg .sra .B s

/-- `SRA C` (R325). -/
def execSra_C (s : State) : Out := rotReg .sra .C s

/-- `SRA D` (R325). -/
def execSra_D (s : State) : Out := rotReg .sra .D s

/-- `SRA E` (R325). -/
def execSra_E (s : State) : Out := rotReg .sra .E s

/-- `SRA H` (R325). -/
def execSra_H (s : State) : Out := rotReg .sra .H s

/-- `SRA L` (R325). -/
def execSra_L (s : State) : Out := rotReg .sra .L s

/-- `SRA (HL)` (R326). -/
def execSra_atHL (s : State) : Out := rotAtHL .sra s

/-- `SRA A` (R325). -/
def execSra_A (s : State) : Out := rotReg .sra .A s

/-- `SWAP B` (R327). -/
def execSwap_B (s : State) : Out := rotReg .swap .B s

/-- `SWAP C` (R327). -/
def execSwap_C (s : State) : Out := rotReg .swap .C s

/-- `SWAP D` (R327). -/
def execSwap_D (s : State) : Out := rotReg .swap .D s

/-- `SWAP E` (R327). -/
def execSwap_E (s : State) : Out := rotReg .swap .E s

/-- `SWAP H` (R327). -/
def execSwap_H (s : State) : Out := rotReg .swap .H s

/-- `SWAP L` (R327). -/
def execSwap_L (s : State) : Out := rotReg .swap .L s

/-- `SWAP (HL)` (R328). -/
def execSwap_atHL (s : State) : Out := rotAtHL .swap s

/-- `SWAP A` (R327). -/
def execSwap_A (s : State) : Out := rotReg .swap .A s

/-- `SRL B` (R329). -/
def execSrl_B (s : State) : Out := rotReg .srl .B s

/-- `SRL C` (R329). -/
def execSrl_C (s : State) : Out := rotReg .srl .C s

/-- `SRL D` (R329). -/
def execSrl_D (s : State) : Out := rotReg .srl .D s

/-- `SRL E` (R329). -/
def execSrl_E (s : State) : Out := rotReg .srl .E s

/-- `SRL H` (R329). -/
def execSrl_H (s : State) : Out := rotReg .srl .H s

/-- `SRL L` (R329). -/
def execSrl_L (s : State) : Out := rotReg .srl .L s

/-- `SRL (HL)` (R330). -/
def execSrl_atHL (s : State) : Out := rotAtHL .srl s

/-- `SRL A` (R329). -/
def execSrl_A (s : State) : Out := rotReg .srl .A s

/-- `BIT 0,B` (R331). -/
def execBit_0_B (s : State) : Out := bitTestReg 0 .B s

/-- `BIT 0,C` (R331). -/
def execBit_0_C (s : State) : Out := bitTestReg 0 .C s

/-- `BIT 0,D` (R331). -/
def execBit_0_D (s : State) : Out := bitTestReg 0 .D s

/-- `BIT 0,E` (R331). -/
def execBit_0_E (s : State) : Out := bitTestReg 0 .E s

/-- `BIT 0,H` (R331). -/
def execBit_0_H (s : State) : Out := bitTestReg 0 .H s

/-- `BIT 0,L` (R331). -/
def execBit_0_L (s : State) : Out := bitTestReg 0 .L s

/-- `BIT 0,(HL)` (R332). -/
def execBit_0_atHL (s : State) : Out := bitTestAtHL 0 s

/-- `BIT 0,A` (R331). -/
def execBit_0_A (s : State) : Out := bitTestReg 0 .A s

/-- `BIT 1,B` (R331). -/
def execBit_1_B (s : State) : Out := bitTestReg 1 .B s

/-- `BIT 1,C` (R331). -/
def execBit_1_C (s : State) : Out := bitTestReg 1 .C s

/-- `BIT 1,D` (R331). -/
def execBit_1_D (s : State) : Out := bitTestReg 1 .D s

/-- `BIT 1,E` (R331). -/
def execBit_1_E (s : State) : Out := bitTestReg 1 .E s

/-- `BIT 1,H` (R331). -/
def execBit_1_H (s : State) : Out := bitTestReg 1 .H s

/-- `BIT 1,L` (R331). -/
def execBit_1_L (s : State) : Out := bitTestReg 1 .L s

/-- `BIT 1,(HL)` (R332). -/
def execBit_1_atHL (s : State) : Out := bitTestAtHL 1 s

/-- `BIT 1,A` (R331). -/
def execBit_1_A (s : State) : Out := bitTestReg 1 .A s

/-- `BIT 2,B` (R331). -/
def execBit_2_B (s : State) : Out := bitTestReg 2 .B s

/-- `BIT 2,C` (R331). -/
def execBit_2_C (s : State) : Out := bitTestReg 2 .C s

/-- `BIT 2,D` (R331). -/
def execBit_2_D (s : State) : Out := bitTestReg 2 .D s

/-- `BIT 2,E` (R331). -/
def execBit_2_E (s : State) : Out := bitTestReg 2 .E s

/-- `BIT 2,H` (R331). -/
def execBit_2_H (s : State) : Out := bitTestReg 2 .H s

/-- `BIT 2,L` (R331). -/
def execBit_2_L (s : State) : Out := bitTestReg 2 .L s

/-- `BIT 2,(HL)` (R332). -/
def execBit_2_atHL (s : State) : Out := bitTestAtHL 2 s

/-- `BIT 2,A` (R331). -/
def execBit_2_A (s : State) : Out := bitTestReg 2 .A s

/-- `BIT 3,B` (R331). -/
def execBit_3_B (s : State) : Out := bitTestReg 3 .B s

/-- `BIT 3,C` (R331). -/
def execBit_3_C (s : State) : Out := bitTestReg 3 .C s

/-- `BIT 3,D` (R331). -/
def execBit_3_D (s : State) : Out := bitTestReg 3 .D s

/-- `BIT 3,E` (R331). -/
def execBit_3_E (s : State) : Out := bitTestReg 3 .E s

/-- `BIT 3,H` (R331). -/
def execBit_3_H (s : State) : Out := bitTestReg 3 .H s

/-- `BIT 3,L` (R331). -/
def execBit_3_L (s : State) : Out := bitTestReg 3 .L s

/-- `BIT 3,(HL)` (R332). -/
def execBit_3_atHL (s : State) : Out := bitTestAtHL 3 s

/-- `BIT 3,A` (R331). -/
def execBit_3_A (s : State) : Out := bitTestReg 3 .A s

/-- `BIT 4,B` (R331). -/
def execBit_4_B (s : State) : Out := bitTestReg 4 .B s

/-- `BIT 4,C` (R331). -/
def execBit_4_C (s : State) : Out := bitTestReg 4 .C s

/-- `BIT 4,D` (R331). -/
def execBit_4_D (s : State) : Out := bitTestReg 4 .D s

/-- `BIT 4,E` (R331). -/
def execBit_4_E (s : State) : Out := bitTestReg 4 .E s

/-- `BIT 4,H` (R331). -/
def execBit_4_H (s : State) : Out := bitTestReg 4 .H s

/-- `BIT 4,L` (R331). -/
def execBit_4_L (s : State) : Out := bitTestReg 4 .L s

/-- `BIT 4,(HL)` (R332). -/
def execBit_4_atHL (s : State) : Out := bitTestAtHL 4 s

/-- `BIT 4,A` (R331). -/
def execBit_4_A (s : State) : Out := bitTestReg 4 .A s

/-- `BIT 5,B` (R331). -/
def execBit_5_B (s : State) : Out := bitTestReg 5 .B s

/-- `BIT 5,C` (R331). -/
def execBit_5_C (s : State) : Out := bitTestReg 5 .C s

/-- `BIT 5,D` (R331). -/
def execBit_5_D (s : State) : Out := bitTestReg 5 .D s

/-- `BIT 5,E` (R331). -/
def execBit_5_E (s : State) : Out := bitTestReg 5 .E s

/-- `BIT 5,H` (R331). -/
def execBit_5_H (s : State) : Out := bitTestReg 5 .H s

/-- `BIT 5,L` (R331). -/
def execBit_5_L (s : State) : Out := bitTestReg 5 .L s

/-- `BIT 5,(HL)` (R332). -/
def execBit_5_atHL (s : State) : Out := bitTestAtHL 5 s

/-- `BIT 5,A` (R331). -/
def execBit_5_A (s : State) : Out := bitTestReg 5 .A s

/-- `BIT 6,B` (R331). -/
def execBit_6_B (s : State) : Out := bitTestReg 6 .B s

/-- `BIT 6,C` (R331). -/
def execBit_6_C (s : State) : Out := bitTestReg 6 .C s

/-- `BIT 6,D` (R331). -/
def execBit_6_D (s : State) : Out := bitTestReg 6 .D s

/-- `BIT 6,E` (R331). -/
def execBit_6_E (s : State) : Out := bitTestReg 6 .E s

/-- `BIT 6,H` (R331). -/
def execBit_6_H (s : State) : Out := bitTestReg 6 .H s

/-- `BIT 6,L` (R331). -/
def execBit_6_L (s : State) : Out := bitTestReg 6 .L s

/-- `BIT 6,(HL)` (R332). -/
def execBit_6_atHL (s : State) : Out := bitTestAtHL 6 s

/-- `BIT 6,A` (R331). -/
def execBit_6_A (s : State) : Out := bitTestReg 6 .A s

/-- `BIT 7,B` (R331). -/
def execBit_7_B (s : State) : Out := bitTestReg 7 .B s

/-- `BIT 7,C` (R331). -/
def execBit_7_C (s : State) : Out := bitTestReg 7 .C s

/-- `BIT 7,D` (R331). -/
def execBit_7_D (s : State) : Out := bitTestReg 7 .D s

/-- `BIT 7,E` (R331). -/
def execBit_7_E (s : State) : Out := bitTestReg 7 .E s

/-- `BIT 7,H` (R331). -/
def execBit_7_H (s : State) : Out := bitTestReg 7 .H s

/-- `BIT 7,L` (R331). -/
def execBit_7_L (s : State) : Out := bitTestReg 7 .L s

/-- `BIT 7,(HL)` (R332). -/
def execBit_7_atHL (s : State) : Out := bitTestAtHL 7 s

/-- `BIT 7,A` (R331). -/
def execBit_7_A (s : State) : Out := bitTestReg 7 .A s

/-- `RES 0,B` (R333). -/
def execRes_0_B (s : State) : Out := bitResetReg 0 .B s

/-- `RES 0,C` (R333). -/
def execRes_0_C (s : State) : Out := bitResetReg 0 .C s

/-- `RES 0,D` (R333). -/
def execRes_0_D (s : State) : Out := bitResetReg 0 .D s

/-- `RES 0,E` (R333). -/
def execRes_0_E (s : State) : Out := bitResetReg 0 .E s

/-- `RES 0,H` (R333). -/
def execRes_0_H (s : State) : Out := bitResetReg 0 .H s

/-- `RES 0,L` (R333). -/
def execRes_0_L (s : State) : Out := bitResetReg 0 .L s

/-- `RES 0,(HL)` (R334). -/
def execRes_0_atHL (s : State) : Out := bitResetAtHL 0 s

/-- `RES 0,A` (R333). -/
def execRes_0_A (s : State) : Out := bitResetReg 0 .A s

/-- `RES 1,B` (R333). -/
def execRes_1_B (s : State) : Out := bitResetReg 1 .B s

/-- `RES 1,C` (R333). -/
def execRes_1_C (s : State) : Out := bitResetReg 1 .C s

/-- `RES 1,D` (R333). -/
def execRes_1_D (s : State) : Out := bitResetReg 1 .D s

/-- `RES 1,E` (R333). -/
def execRes_1_E (s : State) : Out := bitResetReg 1 .E s

/-- `RES 1,H` (R333). -/
def execRes_1_H (s : State) : Out := bitResetReg 1 .H s

/-- `RES 1,L` (R333). -/
def execRes_1_L (s : State) : Out := bitResetReg 1 .L s

/-- `RES 1,(HL)` (R334). -/
def execRes_1_atHL (s : State) : Out := bitResetAtHL 1 s

/-- `RES 1,A` (R333). -/
def execRes_1_A (s : State) : Out := bitResetReg 1 .A s

/-- `RES 2,B` (R333). -/
def execRes_2_B (s : State) : Out := bitResetReg 2 .B s

/-- `RES 2,C` (R333). -/
def execRes_2_C (s : State) : Out := bitResetReg 2 .C s

/-- `RES 2,D` (R333). -/
def execRes_2_D (s : State) : Out := bitResetReg 2 .D s

/-- `RES 2,E` (R333). -/
def execRes_2_E (s : State) : Out := bitResetReg 2 .E s

/-- `RES 2,H` (R333). -/
def execRes_2_H (s : State) : Out := bitResetReg 2 .H s

/-- `RES 2,L` (R333). -/
def execRes_2_L (s : State) : Out := bitResetReg 2 .L s

/-- `RES 2,(HL)` (R334). -/
def execRes_2_atHL (s : State) : Out := bitResetAtHL 2 s

/-- `RES 2,A` (R333). -/
def execRes_2_A (s : State) : Out := bitResetReg 2 .A s

/-- `RES 3,B` (R333). -/
def execRes_3_B (s : State) : Out := bitResetReg 3 .B s

/-- `RES 3,C` (R333). -/
def execRes_3_C (s : State) : Out := bitResetReg 3 .C s

/-- `RES 3,D` (R333). -/
def execRes_3_D (s : State) : Out := bitResetReg 3 .D s

/-- `RES 3,E` (R333). -/
def execRes_3_E (s : State) : Out := bitResetReg 3 .E s

/-- `RES 3,H` (R333). -/
def execRes_3_H (s : State) : Out := bitResetReg 3 .H s

/-- `RES 3,L` (R333). -/
def execRes_3_L (s : State) : Out := bitResetReg 3 .L s

/-- `RES 3,(HL)` (R334). -/
def execRes_3_atHL (s : State) : Out := bitResetAtHL 3 s

/-- `RES 3,A` (R333). -/
def execRes_3_A (s : State) : Out := bitResetReg 3 .A s

/-- `RES 4,B` (R333). -/
def execRes_4_B (s : State) : Out := bitResetReg 4 .B s

/-- `RES 4,C` (R333). -/
def execRes_4_C (s : State) : Out := bitResetReg 4 .C s

/-- `RES 4,D` (R333). -/
def execRes_4_D (s : State) : Out := bitResetReg 4 .D s

/-- `RES 4,E` (R333). -/
def execRes_4_E (s : State) : Out := bitResetReg 4 .E s

/-- `RES 4,H` (R333). -/
def execRes_4_H (s : State) : Out := bitResetReg 4 .H s

/-- `RES 4,L` (R333). -/
def execRes_4_L (s : State) : Out := bitResetReg 4 .L s

/-- `RES 4,(HL)` (R334). -/
def execRes_4_atHL (s : State) : Out := bitResetAtHL 4 s

/-- `RES 4,A` (R333). -/
def execRes_4_A (s : State) : Out := bitResetReg 4 .A s

/-- `RES 5,B` (R333). -/
def execRes_5_B (s : State) : Out := bitResetReg 5 .B s

/-- `RES 5,C` (R333). -/
def execRes_5_C (s : State) : Out := bitResetReg 5 .C s

/-- `RES 5,D` (R333). -/
def execRes_5_D (s : State) : Out := bitResetReg 5 .D s

/-- `RES 5,E` (R333). -/
def execRes_5_E (s : State) : Out := bitResetReg 5 .E s

/-- `RES 5,H` (R333). -/
def execRes_5_H (s : State) : Out := bitResetReg 5 .H s

/-- `RES 5,L` (R333). -/
def execRes_5_L (s : State) : Out := bitResetReg 5 .L s

/-- `RES 5,(HL)` (R334). -/
def execRes_5_atHL (s : State) : Out := bitResetAtHL 5 s

/-- `RES 5,A` (R333). -/
def execRes_5_A (s : State) : Out := bitResetReg 5 .A s

/-- `RES 6,B` (R333). -/
def execRes_6_B (s : State) : Out := bitResetReg 6 .B s

/-- `RES 6,C` (R333). -/
def execRes_6_C (s : State) : Out := bitResetReg 6 .C s

/-- `RES 6,D` (R333). -/
def execRes_6_D (s : State) : Out := bitResetReg 6 .D s

/-- `RES 6,E` (R333). -/
def execRes_6_E (s : State) : Out := bitResetReg 6 .E s

/-- `RES 6,H` (R333). -/
def execRes_6_H (s : State) : Out := bitResetReg 6 .H s

/-- `RES 6,L` (R333). -/
def execRes_6_L (s : State) : Out := bitResetReg 6 .L s

/-- `RES 6,(HL)` (R334). -/
def execRes_6_atHL (s : State) : Out := bitResetAtHL 6 s

/-- `RES 6,A` (R333). -/
def execRes_6_A (s : State) : Out := bitResetReg 6 .A s

/-- `RES 7,B` (R333). -/
def execRes_7_B (s : State) : Out := bitResetReg 7 .B s

/-- `RES 7,C` (R333). -/
def execRes_7_C (s : State) : Out := bitResetReg 7 .C s

/-- `RES 7,D` (R333). -/
def execRes_7_D (s : State) : Out := bitResetReg 7 .D s

/-- `RES 7,E` (R333). -/
def execRes_7_E (s : State) : Out := bitResetReg 7 .E s

/-- `RES 7,H` (R333). -/
def execRes_7_H (s : State) : Out := bitResetReg 7 .H s

/-- `RES 7,L` (R333). -/
def execRes_7_L (s : State) : Out := bitResetReg 7 .L s

/-- `RES 7,(HL)` (R334). -/
def execRes_7_atHL (s : State) : Out := bitResetAtHL 7 s

/-- `RES 7,A` (R333). -/
def execRes_7_A (s : State) : Out := bitResetReg 7 .A s

/-- `SET 0,B` (R335). -/
def execSet_0_B (s : State) : Out := bitSetReg 0 .B s

/-- `SET 0,C` (R335). -/
def execSet_0_C (s : State) : Out := bitSetReg 0 .C s

/-- `SET 0,D` (R335). -/
def execSet_0_D (s : State) : Out := bitSetReg 0 .D s

/-- `SET 0,E` (R335). -/
def execSet_0_E (s : State) : Out := bitSetReg 0 .E s

/-- `SET 0,H` (R335). -/
def execSet_0_H (s : State) : Out := bitSetReg 0 .H s

/-- `SET 0,L` (R335). -/
def execSet_0_L (s : State) : Out := bitSetReg 0 .L s

/-- `SET 0,(HL)` (R336). -/
def execSet_0_atHL (s : State) : Out := bitSetAtHL 0 s

/-- `SET 0,A` (R335). -/
def execSet_0_A (s : State) : Out := bitSetReg 0 .A s

/-- `SET 1,B` (R335). -/
def execSet_1_B (s : State) : Out := bitSetReg 1 .B s

/-- `SET 1,C` (R335). -/
def execSet_1_C (s : State) : Out := bitSetReg 1 .C s

/-- `SET 1,D` (R335). -/
def execSet_1_D (s : State) : Out := bitSetReg 1 .D s

/-- `SET 1,E` (R335). -/
def execSet_1_E (s : State) : Out := bitSetReg 1 .E s

/-- `SET 1,H` (R335). -/
def execSet_1_H (s : State) : Out := bitSetReg 1 .H s

/-- `SET 1,L` (R335). -/
def execSet_1_L (s : State) : Out := bitSetReg 1 .L s

/-- `SET 1,(HL)` (R336). -/
def execSet_1_atHL (s : State) : Out := bitSetAtHL 1 s

/-- `SET 1,A` (R335). -/
def execSet_1_A (s : State) : Out := bitSetReg 1 .A s

/-- `SET 2,B` (R335). -/
def execSet_2_B (s : State) : Out := bitSetReg 2 .B s

/-- `SET 2,C` (R335). -/
def execSet_2_C (s : State) : Out := bitSetReg 2 .C s

/-- `SET 2,D` (R335). -/
def execSet_2_D (s : State) : Out := bitSetReg 2 .D s

/-- `SET 2,E` (R335). -/
def execSet_2_E (s : State) : Out := bitSetReg 2 .E s

/-- `SET 2,H` (R335). -/
def execSet_2_H (s : State) : Out := bitSetReg 2 .H s

/-- `SET 2,L` (R335). -/
def execSet_2_L (s : State) : Out := bitSetReg 2 .L s

/-- `SET 2,(HL)` (R336). -/
def execSet_2_atHL (s : State) : Out := bitSetAtHL 2 s

/-- `SET 2,A` (R335). -/
def execSet_2_A (s : State) : Out := bitSetReg 2 .A s

/-- `SET 3,B` (R335). -/
def execSet_3_B (s : State) : Out := bitSetReg 3 .B s

/-- `SET 3,C` (R335). -/
def execSet_3_C (s : State) : Out := bitSetReg 3 .C s

/-- `SET 3,D` (R335). -/
def execSet_3_D (s : State) : Out := bitSetReg 3 .D s

/-- `SET 3,E` (R335). -/
def execSet_3_E (s : State) : Out := bitSetReg 3 .E s

/-- `SET 3,H` (R335). -/
def execSet_3_H (s : State) : Out := bitSetReg 3 .H s

/-- `SET 3,L` (R335). -/
def execSet_3_L (s : State) : Out := bitSetReg 3 .L s

/-- `SET 3,(HL)` (R336). -/
def execSet_3_atHL (s : State) : Out := bitSetAtHL 3 s

/-- `SET 3,A` (R335). -/
def execSet_3_A (s : State) : Out := bitSetReg 3 .A s

/-- `SET 4,B` (R335). -/
def execSet_4_B (s : State) : Out := bitSetReg 4 .B s

/-- `SET 4,C` (R335). -/
def execSet_4_C (s : State) : Out := bitSetReg 4 .C s

/-- `SET 4,D` (R335). -/
def execSet_4_D (s : State) : Out := bitSetReg 4 .D s

/-- `SET 4,E` (R335). -/
def execSet_4_E (s : State) : Out := bitSetReg 4 .E s

/-- `SET 4,H` (R335). -/
def execSet_4_H (s : State) : Out := bitSetReg 4 .H s

/-- `SET 4,L` (R335). -/
def execSet_4_L (s : State) : Out := bitSetReg 4 .L s

/-- `SET 4,(HL)` (R336). -/
def execSet_4_atHL (s : State) : Out := bitSetAtHL 4 s

/-- `SET 4,A` (R335). -/
def execSet_4_A (s : State) : Out := bitSetReg 4 .A s

/-- `SET 5,B` (R335). -/
def execSet_5_B (s : State) : Out := bitSetReg 5 .B s

/-- `SET 5,C` (R335). -/
def execSet_5_C (s : State) : Out := bitSetReg 5 .C s

/-- `SET 5,D` (R335). -/
def execSet_5_D (s : State) : Out := bitSetReg 5 .D s

/-- `SET 5,E` (R335). -/
def execSet_5_E (s : State) : Out := bitSetReg 5 .E s

/-- `SET 5,H` (R335). -/
def execSet_5_H (s : State) : Out := bitSetReg 5 .H s

/-- `SET 5,L` (R335). -/
def execSet_5_L (s : State) : Out := bitSetReg 5 .L s

/-- `SET 5,(HL)` (R336). -/
def execSet_5_atHL (s : State) : Out := bitSetAtHL 5 s

/-- `SET 5,A` (R335). -/
def execSet_5_A (s : State) : Out := bitSetReg 5 .A s

/-- `SET 6,B` (R335). -/
def execSet_6_B (s : State) : Out := bitSetReg 6 .B s

/-- `SET 6,C` (R335). -/
def execSet_6_C (s : State) : Out := bitSetReg 6 .C s

/-- `SET 6,D` (R335). -/
def execSet_6_D (s : State) : Out := bitSetReg 6 .D s

/-- `SET 6,E` (R335). -/
def execSet_6_E (s : State) : Out := bitSetReg 6 .E s

/-- `SET 6,H` (R335). -/
def execSet_6_H (s : State) : Out := bitSetReg 6 .H s

/-- `SET 6,L` (R335). -/
def execSet_6_L (s : State) : Out := bitSetReg 6 .L s

/-- `SET 6,(HL)` (R336). -/
def execSet_6_atHL (s : State) : Out := bitSetAtHL 6 s

/-- `SET 6,A` (R335). -/
def execSet_6_A (s : State) : Out := bitSetReg 6 .A s

/-- `SET 7,B` (R335). -/
def execSet_7_B (s : State) : Out := bitSetReg 7 .B s

/-- `SET 7,C` (R335). -/
def execSet_7_C (s : State) : Out := bitSetReg 7 .C s

/-- `SET 7,D` (R335). -/
def execSet_7_D (s : State) : Out := bitSetReg 7 .D s

/-- `SET 7,E` (R335). -/
def execSet_7_E (s : State) : Out := bitSetReg 7 .E s

/-- `SET 7,H` (R335). -/
def execSet_7_H (s : State) : Out := bitSetReg 7 .H s

/-- `SET 7,L` (R335). -/
def execSet_7_L (s : State) : Out := bitSetReg 7 .L s

/-- `SET 7,(HL)` (R336). -/
def execSet_7_atHL (s : State) : Out := bitSetAtHL 7 s

/-- `SET 7,A` (R335). -/
def execSet_7_A (s : State) : Out := bitSetReg 7 .A s

end Sys2Proof.Machine
end

