-- ==== Sys2Proof/Machine/System.lean ====
section
/-!
DEFINITION. Processor control, the prefix row and the illegal opcodes (46_system.md R370 to R378).
-/

namespace Sys2Proof.Machine

/-- `NOP` (R370). -/
def complete (s : State) : Out := done 4 s

/-- `HALT` (R371): HALTED <- 1. -/
def halt (s : State) : Out := done 4 { s with cpu := { s.cpu with halted := true } }

/-- `STOP` (R372), its padding byte passed: as the parameter `STOP_SEMANTICS` says (92_eei_decisions.md D10). Under `refuse` "the model
defines no successor state". -/
def stop (s : State) : Out :=
  match s.params.stop with
  | .refuse => .refused .stopUnspecified
  | .halt => halt s
  | .nop => complete s

/-- `DI` (R374): at once, cancelling a pending enable. -/
def disableInterrupts (s : State) : Out := done 4 { s with cpu := { s.cpu with ime := false, imePending := false } }

/-- `EI` (R375): IME itself is not changed. -/
def enableInterrupts (s : State) : Out := done 4 { s with cpu := { s.cpu with imePending := true } }

/-- An illegal opcode (R377): the machine enters the FAULT state of R400 with the address of the opcode byte and the byte; nothing else
changes, no cycles are returned. -/
def illegalOpcode (op : Byte) (s : State) : Out := .next (raiseFault .illegalOpcode (s.cpu.pc - 1) op s)

/-! One meaning per row of the opcode table. -/

/-- `NOP` (R370). -/
def execNop (s : State) : Out := complete s

/-- `STOP` (R372). -/
def execStop (_pad : Byte) (s : State) : Out := stop s

/-- `HALT` (R371). -/
def execHalt (s : State) : Out := halt s

/-- `PREFIX CB` (R376). -/
def execPrefix_CB (op2 : Byte) (s : State) : Out := extended op2 s

/-- `ILLEGAL_D3` (R377). -/
def execIllegal_D3 (s : State) : Out := illegalOpcode 0xD3 s

/-- `ILLEGAL_DB` (R377). -/
def execIllegal_DB (s : State) : Out := illegalOpcode 0xDB s

/-- `ILLEGAL_DD` (R377). -/
def execIllegal_DD (s : State) : Out := illegalOpcode 0xDD s

/-- `ILLEGAL_E3` (R377). -/
def execIllegal_E3 (s : State) : Out := illegalOpcode 0xE3 s

/-- `ILLEGAL_E4` (R377). -/
def execIllegal_E4 (s : State) : Out := illegalOpcode 0xE4 s

/-- `ILLEGAL_EB` (R377). -/
def execIllegal_EB (s : State) : Out := illegalOpcode 0xEB s

/-- `ILLEGAL_EC` (R377). -/
def execIllegal_EC (s : State) : Out := illegalOpcode 0xEC s

/-- `ILLEGAL_ED` (R377). -/
def execIllegal_ED (s : State) : Out := illegalOpcode 0xED s

/-- `DI` (R374). -/
def execDi (s : State) : Out := disableInterrupts s

/-- `ILLEGAL_F4` (R377). -/
def execIllegal_F4 (s : State) : Out := illegalOpcode 0xF4 s

/-- `EI` (R375). -/
def execEi (s : State) : Out := enableInterrupts s

/-- `ILLEGAL_FC` (R377). -/
def execIllegal_FC (s : State) : Out := illegalOpcode 0xFC s

/-- `ILLEGAL_FD` (R377). -/
def execIllegal_FD (s : State) : Out := illegalOpcode 0xFD s

end Sys2Proof.Machine
end

