-- ==== Sys2Proof/Machine/Render.lean ====
section
/-!
DEFINITION. Scanline rendering (62_ppu.md R460 to R464, R490 to R499). Rule R490's three passes over the row are written pixel by pixel:
no pass reads another column, so each column's passes run in the rule's order by themselves (log 15). Video RAM and sprite memory are
read directly, without a gate (R460).
-/

namespace Sys2Proof.Machine

/-- `VRAM[a]` for a bus address in 0x8000-0x9FFF (R460). -/
def vramAt (p : Ppu) (a : Nat) : Byte := p.vram.read (a - 0x8000)

/-- `tile_pixel(t, r, c)` (R462): row `r`, column `c` of the tile at `t`. -/
def tilePixel (p : Ppu) (t r c : Nat) : BitVec 2 :=
  BitVec.ofBool ((vramAt p (t + 2 * r + 1)).getLsbD (7 - c)) ++ BitVec.ofBool ((vramAt p (t + 2 * r)).getLsbD (7 - c))

/-- `shade(P, raw)` (R463). -/
def shade (palette : Byte) (raw : BitVec 2) : Shade := palette.extractLsb' (2 * raw.toNat) 2

/-- `bg_tile_addr(id)` (R497): unsigned from 0x8000, or signed from 0x9000. -/
def bgTileAddr (p : Ppu) (id : Byte) : Nat :=
  if p.lcdc.getLsbD 4 then 0x8000 + 16 * id.toNat
  else if id.toNat < 128 then 0x9000 + 16 * id.toNat
  else 0x9000 - 16 * (256 - id.toNat)

/-- The raw pixel at column `px`, row `py` of the plane of a tile-index map (R461, R491, R492). -/
def mapPixel (p : Ppu) (map px py : Nat) : BitVec 2 :=
  tilePixel p (bgTileAddr p (vramAt p (map + 32 * (py / 8) + px / 8))) (py % 8) (px % 8)

/-- The raw background pixel at screen column `x` (R491): the plane wraps in both directions. -/
def backgroundRaw (p : Ppu) (x : Nat) : BitVec 2 :=
  mapPixel p (if p.lcdc.getLsbD 3 then 0x9C00 else 0x9800) ((x + p.scx.toNat) % 256) ((p.ly.toNat + p.scy.toNat) % 256)

/-- Whether the window pass writes column `x` (R492). -/
def windowCovers (p : Ppu) (x : Nat) : Bool :=
  p.lcdc.getLsbD 0 && p.lcdc.getLsbD 5 && decide (p.wy.toNat ≤ p.ly.toNat) && decide (p.wx.toNat ≤ x + 7)

/-- The raw window pixel at screen column `x` (R492): the window does not scroll. -/
def windowRaw (p : Ppu) (x : Nat) : BitVec 2 :=
  mapPixel p (if p.lcdc.getLsbD 6 then 0x9C00 else 0x9800) (x + 7 - p.wx.toNat) (p.ly.toNat - p.wy.toNat)

/-- The raw pixel background and window finally show at column `x` (R491, R492); 0 when both are blanked. -/
def layerRaw (p : Ppu) (x : Nat) : BitVec 2 :=
  if p.lcdc.getLsbD 0 then if windowCovers p x then windowRaw p x else backgroundRaw p x else 0

/-- The shade background and window leave at column `x`: through BGP, but shade 0 when blanked (R491). -/
def layerShade (p : Ppu) (x : Nat) : Shade := if p.lcdc.getLsbD 0 then shade p.bgp (layerRaw p x) else 0

/-- `bg_opaque[x]` (R495). -/
def bgOpaque (p : Ppu) (x : Nat) : Bool := decide (layerRaw p x ≠ 0)

/-- The sprite height h (R472 bit 2, R493). -/
def spriteHeight (p : Ppu) : Nat := if p.lcdc.getLsbD 2 then 16 else 8

/-- Whether record `n` covers line LY, in unbounded integers (R493). -/
def spriteCovers (p : Ppu) (n : Nat) : Bool :=
  let y := (oamRecord p n).y.toNat
  decide (y ≤ p.ly.toNat + 16) && decide (p.ly.toNat + 16 < y + spriteHeight p)

/-- `sel` (R493): the first ten covering records in table order; none with sprites disabled. -/
def selectSprites (p : Ppu) : List Nat :=
  if p.lcdc.getLsbD 1 then ((List.range 40).filter (spriteCovers p)).take 10 else []

/-- `a` has priority over `b` (R494; 90_conflicts.md C10): smaller X, then lower index. -/
def spritePriority (p : Ppu) (a b : Nat) : Bool :=
  let xa := (oamRecord p a).x.toNat
  let xb := (oamRecord p b).x.toNat
  decide (xa < xb) || (decide (xa = xb) && decide (a < b))

/-- Inserts record `n` into a list in painting order, before the first record with priority over it. -/
def paintInsert (p : Ppu) (n : Nat) : List Nat → List Nat
  | [] => [n]
  | m :: rest => if spritePriority p m n then n :: m :: rest else m :: paintInsert p n rest

/-- The records in painting order, lowest priority first (R496). -/
def paintOrder (p : Ppu) : List Nat → List Nat
  | [] => []
  | n :: rest => paintInsert p n (paintOrder p rest)

/-- The raw pixel of sprite `n` at column `x` of line LY; none outside its eight columns (R496). -/
def spriteRaw (p : Ppu) (n x : Nat) : Option (BitVec 2) :=
  let o := oamRecord p n
  if o.x.toNat ≤ x + 8 ∧ x < o.x.toNat then
    let h := spriteHeight p
    let r0 := p.ly.toNat + 16 - o.y.toNat
    let r := if o.yflip then h - 1 - r0 else r0
    let tile := if h = 16 then (o.tile &&& 0xFE#8).toNat + r / 8 else o.tile.toNat
    let c := x + 8 - o.x.toNat
    some (tilePixel p (0x8000 + 16 * tile) (r % 8) (if o.xflip then 7 - c else c))
  else none

/-- One sprite painted over a column whose shade so far is `under` (R496): transparent, hidden behind the background, or shown. -/
def paintSprite (p : Ppu) (x : Nat) (under : Shade) (n : Nat) : Shade :=
  match spriteRaw p n x with
  | none => under
  | some raw =>
    if raw = 0 then under
    else if (oamRecord p n).behindBg && bgOpaque p x then under
    else shade (if (oamRecord p n).pal then p.obp1 else p.obp0) raw

/-- The shade column `x` of line LY ends with, given the selected sprites in painting order (R490, R496). -/
def renderPixel (p : Ppu) (order : List Nat) (x : Nat) : Shade := order.foldl (paintSprite p x) (layerShade p x)

/-- The 160 shades of line LY (R490). -/
def renderRow (p : Ppu) : Row := (List.range 160).map (renderPixel p (paintOrder p (selectSprites p)))

/-- Stores row `y` of FRAME, the rows kept in rising order. -/
def setFrameRow (y : Nat) (row : Row) : List (Nat × Row) → List (Nat × Row)
  | [] => [(y, row)]
  | (k, old) :: rest =>
    if y < k then (y, row) :: (k, old) :: rest
    else if y = k then (y, row) :: rest
    else (k, old) :: setFrameRow y row rest

/-- Row `y` of FRAME as the host reads it between steps (R464, 60_exceptions.md R424); none before its first render (log 3). -/
def frameRow (y : Nat) : List (Nat × Row) → Option Row
  | [] => none
  | (k, row) :: rest => if k = y then some row else frameRow y rest

/-- `render_scanline()` (R490). FRAME has the rows 0..143 only; LY is below 144 whenever pixel-transfer ends (R481). -/
def renderScanline (p : Ppu) : Ppu :=
  if p.ly.toNat < 144 then { p with frame := setFrameRow p.ly.toNat (renderRow p) p.frame } else p

end Sys2Proof.Machine
end

