-- ==== Sys2Proof/Machine/Ppu.lean ====
section
/-!
DEFINITION. The scanline state machine and the status line (62_ppu.md R480 to R487).
-/

namespace Sys2Proof.Machine

/-- The duration of a mode in cycles (R481); pixel-transfer takes `TRANSFER_CYCLES` = 172. -/
def PpuMode.duration : PpuMode → Nat
  | .oamSearch => 80
  | .transfer => 172
  | .hblank => 204
  | .vblank => 456

/-- The "on expiry" action of a mode (R481), and whether it enters v-blank, which sets IF bit 0 (R483). -/
def ppuExpire (p : Ppu) : Ppu × Bool :=
  match p.mode with
  | .oamSearch => ({ p with mode := .transfer }, false)
  | .transfer => ({ renderScanline p with mode := .hblank }, false)
  | .hblank =>
    if p.ly + 1 = 144 then ({ p with ly := p.ly + 1, mode := .vblank }, true)
    else ({ p with ly := p.ly + 1, mode := .oamSearch }, false)
  | .vblank =>
    if p.ly + 1 = 154 then ({ p with ly := 0, mode := .oamSearch }, false)
    else ({ p with ly := p.ly + 1 }, false)

/-- The loop of `ppu_step` (R480). The first argument bounds the number of expiries; each takes at least 80 cycles off MODE_CLOCK, so
MODE_CLOCK itself is bound enough. -/
def ppuLoop : Nat → Ppu → Ppu × Bool
  | 0, p => (p, false)
  | k + 1, p =>
    if p.modeClock < p.mode.duration then (p, false)
    else
      let r := ppuExpire { p with modeClock := p.modeClock - p.mode.duration }
      let rest := ppuLoop k r.1
      (rest.1, r.2 || rest.2)

/-- The advance of `ppu_step(n)` while the display is on (R480), and whether v-blank was entered. -/
def ppuAdvance (n : Nat) (p : Ppu) : Ppu × Bool := ppuLoop (p.modeClock + n) { p with modeClock := p.modeClock + n }

/-- The condition of the status line (R486). -/
def statCond (p : Ppu) : Bool :=
  p.lcdc.getLsbD 7 &&
    ((decide (p.mode = .hblank) && p.statEn.getLsbD 0) || (decide (p.mode = .vblank) && p.statEn.getLsbD 1)
      || (decide (p.mode = .oamSearch) && p.statEn.getLsbD 2) || (decide (p.ly = p.lyc) && p.statEn.getLsbD 3))

/-- `update_stat_line()` (R486): the latch follows the condition; a rising edge sets IF bit 1. -/
def updateStatLine (p : Ppu) : Ppu × Bool := ({ p with statLine := statCond p }, statCond p && !p.statLine)

/-- `ppu_step(n)` (R480): the pixel unit and the bits it sets in IF. -/
def ppuStep (n : Nat) (p : Ppu) : Ppu × BitVec 5 :=
  let r := if p.lcdc.getLsbD 7 then ppuAdvance n p else (p, false)
  let u := updateStatLine r.1
  (u.1, (if r.2 then 0b00001#5 else 0) ||| (if u.2 then 0b00010#5 else 0))

end Sys2Proof.Machine
end

