-- ==== Sys2Proof/Machine/Coordinator.lean ====
section
/-!
DEFINITION. The step of the machine (60_exceptions.md R413 to R424): interrupt resolution, the processor step with its fetch, then the
timer and the pixel unit with the step's cycles.
-/

namespace Sys2Proof.Machine

/-- The least i with `pending[i] = 1` (R413): v-blank, lcd-stat, timer, serial, joypad. -/
def leastPending (pending : BitVec 5) : Option (Fin 5) :=
  if pending.getLsbD 0 then some 0
  else if pending.getLsbD 1 then some 1
  else if pending.getLsbD 2 then some 2
  else if pending.getLsbD 3 then some 3
  else if pending.getLsbD 4 then some 4
  else none

/-- `VECTOR[i]` (R412). -/
def vector (i : Fin 5) : Word := BitVec.ofNat 16 (0x40 + 8 * i.val)

/-- Clears IF bit `i`. -/
def acknowledge (i : Fin 5) (s : State) : State := { s with ifl := s.ifl &&& ~~~(1#5 <<< i.val) }

/-- Releases HALTED (R413). -/
def wake (s : State) : State := { s with cpu := { s.cpu with halted := false } }

/-- `resolve()`, phase 1 (R413): the state after it and the cycles it costs. -/
def resolve (s : State) : State × Nat :=
  match leastPending (s.ifl &&& s.ie) with
  | none => (s, 0)
  | some i => if s.cpu.ime then (service (vector i) (acknowledge i (wake s)), s.params.intCycles) else (wake s, 0)

/-- Applies a pending interrupt enable (R421 step 2). -/
def applyPendingEnable (s : State) : State :=
  if s.cpu.imePending then { s with cpu := { s.cpu with ime := true, imePending := false } } else s

/-- The instruction at PC (R421 step 3): its opcode byte and the two bytes after it, through the bus, decoded. A byte the instruction
does not have is not used, and no read changes any state (20_memory.md R70; log 16). -/
def fetchInstr (s : State) : Instr := decodeBytes (read8 s.cpu.pc s) (read8 (s.cpu.pc + 1) s) (read8 (s.cpu.pc + 2) s)

/-- PC past every byte of the instruction at PC (00_scope.md R11, 30_encoding.md R175). -/
def skipInstr (s : State) : State := s.setPc (s.cpu.pc + BitVec.ofNat 16 (opLength (read8 s.cpu.pc s)))

/-- `cpu_step()`, phase 2 (R421). -/
def cpuStep (s : State) : Out :=
  if s.cpu.halted then done s.params.haltCycles s
  else
    let t := applyPendingEnable s
    exec (fetchInstr t) (skipInstr t)

/-- Phase 3a (R420): the timer, whose overflow sets IF bit 2. -/
def timerPhase (total : Nat) (s : State) : State :=
  let r := timerStep total s.timer
  { s with timer := r.1, ifl := if r.2 then s.ifl ||| 0b00100#5 else s.ifl }

/-- Phase 3b (R420): the pixel unit, which may set IF bits 0 and 1. -/
def ppuPhase (total : Nat) (s : State) : State :=
  let r := ppuStep total s.ppu
  { s with ppu := r.1, ifl := s.ifl ||| r.2 }

/-- The end of a step whose interrupt service cost `ci` (R420): the devices receive the total, which the step returns. A fault raised in
phase 2 ends the step there: no cycles are returned, no device moves (R400). -/
def finish (ci : Nat) (s : State) : State :=
  match s.fault with
  | some _ => s
  | none =>
    let total := ci + s.cycles
    { ppuPhase total (timerPhase total s) with cycles := total }

/-- `step()` (R420). Once FAULT is present no further step is possible (R400). -/
def coordinatorStep (s : State) : Out :=
  match s.fault with
  | some r => .fault (.terminal r)
  | none =>
    let ph := resolve s
    match cpuStep ph.1 with
    | .next t => .next (finish ph.2 t)
    | .fault r => .fault r
    | .refused r => .refused r

end Sys2Proof.Machine
end

