-- ==== Sys2Proof/Machine/HostIf.lean ====
section
/-!
DEFINITION. Placing bytes from outside the machine: how a program stands in memory before a step (log 9). No rule of the spec performs
this; it is the model's stand-in for the images that reset takes (70_reset_and_hazards.md R531).
-/

namespace Sys2Proof.Machine

/-- Whether the boot overlay answers a read of offset `n` (20_memory.md R77). -/
def overlayAnswers (n : Nat) (s : State) : Bool := s.boot.isSome && decide (n < 0x100) && !s.bootOff

/-- Puts `v` into the array byte behind bus address `a`, changing no register and performing no bus write. The addresses backed by no
array (sprite memory, the unused range, I/O, IE) are left as they are. -/
def loadByte (a : Word) (v : Byte) (s : State) : State :=
  let n := a.toNat
  match regionOf a with
  | .rom =>
    if overlayAnswers n s then { s with boot := s.boot.map (fun image => image.write n v) }
    else { s with cart := { s.cart with rom := s.cart.rom.write (romOffset s.cart n) v } }
  | .vram => { s with ppu := { s.ppu with vram := s.ppu.vram.write (n - 0x8000) v } }
  | .xram => { s with cart := { s.cart with xram := s.cart.xram.write (xramOffset s.cart n) v } }
  | .wram => { s with wram := s.wram.write (n - 0xC000) v }
  | .echo => { s with wram := s.wram.write (n - 0xE000) v }
  | .hram => { s with hram := s.hram.write (n - 0xFF80) v }
  | .oam | .unused | .io | .ie => s

end Sys2Proof.Machine
end

