-- ==== Sys2Proof/Machine/Step.lean ====
section
/-!
DEFINITION. One step of the machine (60_exceptions.md R420), and placing one instruction where the next step fetches it.
-/

namespace Sys2Proof.Machine

/-- `step()` (R420). -/
def step (s : State) : Out := coordinatorStep s

/-- `s` with the instruction whose bits are `w` (numbered as opcode_table.json numbers them; the bits above `nbits` zero) at PC, the
machine running, awake, and about to fetch rather than to service an interrupt (log 9). -/
def State.withFetchWord (s : State) (nbits w : Nat) : State :=
  let v := w % 2 ^ nbits
  let pc := s.cpu.pc
  let t := loadByte (pc + 2) (BitVec.ofNat 8 (v / 0x10000)) (loadByte (pc + 1) (BitVec.ofNat 8 (v / 0x100)) (loadByte pc (BitVec.ofNat 8 v) s))
  { t with
    fault := none
    cpu := { t.cpu with halted := false, ime := if t.ifl &&& t.ie = 0 then t.cpu.ime else false } }

end Sys2Proof.Machine
end

