-- ==== Sys2Proof/Machine/Reset.lean ====
section
/-!
DEFINITION. Reset as a procedure of its arguments (70_reset_and_hazards.md R530 to R533, 21_cartridge.md R130 to R133, 10_state.md R42
to R45). `State.reset` is its result for no boot image and the blank cartridge (Laws/Reset.lean).
-/

namespace Sys2Proof.Machine

/-- A byte string: its length and its bytes, an unlisted one 00. -/
structure Image where
  length : Nat
  bytes : Memory
  deriving DecidableEq, Repr

/-- `RAM_INIT` (R45): what the memories R45 leaves unspecified hold after reset. A claim for every `RamInit` is one that depends on none
of them. -/
structure RamInit where
  wram : Memory
  hram : Memory
  vram : Memory
  xram : Memory
  snd : Memory
  oam : Vector OamRecord 40
  frame : List (Nat × Row)
  deriving DecidableEq, Repr

/-- Nothing listed: the choice `State.reset` makes (log 2). -/
def RamInit.blank : RamInit :=
  { wram := [], hram := [], vram := [], xram := [], snd := [], oam := Vector.replicate 40 OamRecord.zero, frame := [] }

/-- The arguments of reset (R531). -/
structure ResetArgs where
  boot : Option Image
  cart : Image
  ram : RamInit
  params : Params
  /-- JOYPAD_LINES as the host drives them (R45). -/
  lines : Byte
  deriving DecidableEq, Repr

/-- CART_TYPE of a controller type byte (R131); none is unsupported. -/
def cartTypeOf (t : Byte) : Option CartType :=
  match t.toNat with
  | 0x00 => some .romOnly
  | 0x01 | 0x02 | 0x03 => some .mbc1
  | 0x0F | 0x10 | 0x11 | 0x12 | 0x13 => some .mbc3
  | _ => none

/-- Whether a controller type byte gives cartridge RAM by the RAM-size code (R131). -/
def hasCartRam (t : Byte) : Bool :=
  match t.toNat with
  | 0x02 | 0x03 | 0x10 | 0x12 | 0x13 => true
  | _ => false

/-- ROM_BANKS of a ROM-size code (R132). -/
def romBanksOf (c : Byte) : Option Nat := if c.toNat ≤ 8 then some (2 * 2 ^ c.toNat) else none

/-- The bytes a RAM-size code names (R133). -/
def xramSizeOf (c : Byte) : Option Nat :=
  match c.toNat with
  | 0 => some 0
  | 1 => some 2048
  | 2 => some 8192
  | 3 => some 32768
  | 4 => some 131072
  | 5 => some 65536
  | _ => none

/-- The processor under reset profile P-BOOT (R42). -/
def Cpu.resetPBoot : Cpu :=
  { a := 0, b := 0, c := 0, d := 0, e := 0, h := 0, l := 0, f := { z := false, n := false, h := false, c := false }
    sp := 0, pc := 0, ime := false, imePending := false, halted := false }

/-- The pixel unit's registers under P-BOOT (R42); its memories are reset's argument. -/
def Ppu.resetPBoot : Ppu :=
  { mode := .hblank, modeClock := 0, ly := 0, lcdc := 0, statEn := 0, scy := 0, scx := 0, wy := 0, wx := 0, lyc := 0
    bgp := 0, obp0 := 0, obp1 := 0, dmaReg := 0, statLine := false
    vram := [], oam := Vector.replicate 40 OamRecord.zero, frame := [] }

/-- The cartridge after steps 3 to 5 and 7 of R532. -/
def Cart.resetWith (kind : CartType) (romBanks xramSize : Nat) (image : Image) (ram : RamInit) : Cart :=
  { kind := kind, romBanks := romBanks, xramSize := xramSize, ramEn := false, bankLo := 1, bankHi := 0, bankMode := false
    rom := image.bytes, xram := ram.xram }

/-- The machine after steps 6 to 8 of R532, the cartridge given. -/
def State.resetProfile (args : ResetArgs) (cart : Cart) : State :=
  let boot := args.boot.isSome
  let ppu := if boot then Ppu.resetPBoot else Ppu.resetPCart
  { cpu := if boot then Cpu.resetPBoot else Cpu.resetPCart
    ifl := if boot then 0 else 0b00001
    ie := 0
    fault := none
    boot := args.boot.map Image.bytes
    bootOff := !boot
    cart := cart
    ppu := { ppu with vram := args.ram.vram, oam := args.ram.oam, frame := args.ram.frame }
    timer := { div := if boot then 0 else 0xABCC, tima := 0, tma := 0, tacEn := false, tacSel := 0 }
    joypad := { sel := 0b11, lines := args.lines }
    sb := 0, sc := 0
    wram := args.ram.wram, hram := args.ram.hram, snd := args.ram.snd
    params := args.params, cycles := 0 }

/-- `reset(BOOT_OVERLAY, CART_IMAGE)` (R532), its steps in order. A size code out of range refuses the image whatever its type (log 17). -/
def resetWith (args : ResetArgs) : Out :=
  if (match args.boot with | some b => decide (b.length ≠ 256) | none => false) then .refused .bootImageLength
  else if args.cart.length < 0x150 then .refused .cartImageTooShort
  else
    let t := args.cart.bytes.read 0x147
    match cartTypeOf t with
    | none => .fault (.terminal { kind := .unsupportedCartridge, address := 0x0147, value := t })
    | some kind =>
      match romBanksOf (args.cart.bytes.read 0x148), xramSizeOf (args.cart.bytes.read 0x149) with
      | none, _ => .refused .romSizeCode
      | some _, none => .refused .ramSizeCode
      | some banks, some size =>
        if args.cart.length ≠ banks * 0x4000 then .refused .cartImageLength
        else .next (State.resetProfile args (Cart.resetWith kind banks (if hasCartRam t then size else 0) args.cart args.ram))

end Sys2Proof.Machine
end

