-- ==== Sys2Proof/Safety.lean ====
section
/-!
DEFINITION. The terms in which claims are made: the storage cell behind an address, the invariant of the machine, parked states and safe
runs.
-/

namespace Sys2Proof.Machine

/-- A byte of plain storage: an array and an offset in it (10_state.md R33), or a register that is nothing but its stored byte. -/
inductive Cell where
  | vram (k : Nat)
  | xram (k : Nat)
  | wram (k : Nat)
  | hram (k : Nat)
  | snd (k : Nat)
  /-- A device register that reads back the byte stored and that no other read shows; `k` is its bus address. -/
  | reg (k : Nat)
  deriving DecidableEq, Repr

/-- The registers that read back the byte stored and show in no other read: SB, TIMA, TMA, SCY, SCX, BGP, OBP0, OBP1, WY, WX
(20_memory.md R90). -/
def plainRegister (n : Nat) : Bool :=
  decide (n = 0xFF01) || decide (n = 0xFF05) || decide (n = 0xFF06) || decide (n = 0xFF42) || decide (n = 0xFF43) ||
    (decide (0xFF47 ≤ n) && decide (n ≤ 0xFF4B))

/-- The plain storage byte a bus access at `a` reaches in state `s`; none where the address is gated shut, absent, read-only, a
register, or sprite memory (20_memory.md R76, R90). Two addresses reach one cell through the echo (R82) and through a cartridge RAM
smaller than its window (21_cartridge.md R135). -/
def cellOf (a : Word) (s : State) : Option Cell :=
  let n := a.toNat
  match regionOf a with
  | .vram => if vramOpen s.ppu then some (.vram (n - 0x8000)) else none
  | .xram => if xramOpen s.cart then some (.xram (xramOffset s.cart n)) else none
  | .wram => some (.wram (n - 0xC000))
  | .echo => some (.wram (n - 0xE000))
  | .hram => some (.hram (n - 0xFF80))
  | .io =>
    if 0xFF10 ≤ n ∧ n < 0xFF40 then some (.snd (n - 0xFF10)) else if plainRegister n then some (.reg n) else none
  | .rom | .oam | .unused | .ie => none

/-- The unimplemented I/O addresses (20_memory.md R99). -/
def unimplementedIo (n : Nat) : Bool :=
  decide (n = 0xFF03) || (decide (0xFF08 ≤ n) && decide (n ≤ 0xFF0E)) || (decide (0xFF4C ≤ n) && decide (n ≤ 0xFF4F))
    || (decide (0xFF51 ≤ n) && decide (n ≤ 0xFF7F))

/-- The addresses at which a processor read gives the stub 0xFF whatever is stored (20_memory.md R104). -/
def stubRead (a : Word) (s : State) : Bool :=
  let n := a.toNat
  match regionOf a with
  | .vram => !vramOpen s.ppu
  | .xram => !xramOpen s.cart
  | .oam => !oamOpen s.ppu
  | .unused => true
  | .io => unimplementedIo n || decide (n = 0xFF50)
  | .rom | .wram | .echo | .hram | .ie => false

/-- The addresses at which a processor write has no effect (20_memory.md R79, R80, R83, R84, R99; 62_ppu.md R475; 21_cartridge.md
R141). -/
def writeDropped (a : Word) (s : State) : Bool :=
  let n := a.toNat
  match regionOf a with
  | .rom => decide (s.cart.kind = .romOnly)
  | .vram => !vramOpen s.ppu
  | .xram => !xramOpen s.cart
  | .oam => !oamOpen s.ppu
  | .unused => true
  | .io => unimplementedIo n || decide (n = 0xFF44)
  | .wram | .echo | .hram | .ie => false

/-- Whether a bus write at `a` may change what a read of `x` gives. Beside `a` itself and the addresses of its storage cell: a bank-control
write moves the switchable ROM window and cartridge RAM (21_cartridge.md R135); DIV may tick TIMA and set IF (60_exceptions.md R441); LCDC
may move MODE and LY, and with MODE the gates of video RAM and sprite memory (62_ppu.md R482); LYC shows in STAT (R473); the DMA trigger
fills sprite memory (20_memory.md R101); 0xFF50 uncovers the cartridge (R100). -/
def storeTouches (a x : Word) (s : State) : Bool :=
  let n := a.toNat
  let k := x.toNat
  let vramOrOam := (decide (0x8000 ≤ k) && decide (k < 0xA000)) || (decide (0xFE00 ≤ k) && decide (k < 0xFEA0))
  decide (x = a) || ((cellOf a s).isSome && decide (cellOf x s = cellOf a s)) ||
    (if n < 0x8000 then (decide (0x4000 ≤ k) && decide (k < 0x8000)) || (decide (0xA000 ≤ k) && decide (k < 0xC000))
    else if n = 0xFF04 then decide (k = 0xFF05) || decide (k = 0xFF0F)
    else if n = 0xFF40 then decide (k = 0xFF41) || decide (k = 0xFF44) || vramOrOam
    else if n = 0xFF45 then decide (k = 0xFF41)
    else if n = 0xFF46 then decide (0xFE00 ≤ k) && decide (k < 0xFEA0)
    else if n = 0xFF50 then decide (k < 0x100)
    else false)

/-! What an instruction does and what it leaves. -/

/-- Every byte of memory reads as before. -/
def SameMemory (s t : State) : Prop := ∀ x, read8 x t = read8 x s

/-- What every address reads as in `t` after the byte `v` was stored at `a` in `s`: where `a` reaches plain storage, the bytes that reach
the same cell read `v` and every other address reads as before; in open sprite memory, that one byte reads `v`, a flag byte without its
low nibble (62_ppu.md R471), and every other address reads as before; where the write is dropped, every address reads as before. -/
def StoredByte (a : Word) (v : Byte) (s t : State) : Prop :=
  (∀ c, cellOf a s = some c → ∀ x, read8 x t = if cellOf x s = some c then v else read8 x s) ∧
  (regionOf a = .oam → oamOpen s.ppu = true →
    ∀ x, read8 x t = if x = a then (if a.toNat % 4 = 3 then v &&& 0xF0#8 else v) else read8 x s) ∧
  (writeDropped a s = true → SameMemory s t)

/-- What every address reads as in `t` after the word `v` was pushed in `s`, where both stack bytes reach plain storage: the high byte
below SP, the low byte below that. -/
def PushedWord (v : Word) (s t : State) : Prop :=
  ∀ hi lo, cellOf (s.cpu.sp - 1) s = some hi → cellOf (s.cpu.sp - 2) s = some lo →
    ∀ x, read8 x t = if cellOf x s = some lo then loByte v else if cellOf x s = some hi then hiByte v else read8 x s

/-- `t` is `s` but for the registers A to L and the returned cost. -/
def OnlyRegs (cost : Nat) (s t : State) : Prop :=
  t = { s with
    cpu := { s.cpu with a := t.cpu.a, b := t.cpu.b, c := t.cpu.c, d := t.cpu.d, e := t.cpu.e, h := t.cpu.h, l := t.cpu.l }
    cycles := cost }

/-- `t` is `s` but for the registers A to L, the flags and the returned cost. -/
def OnlyRegsFlags (cost : Nat) (s t : State) : Prop :=
  t = { s with
    cpu := { s.cpu with a := t.cpu.a, b := t.cpu.b, c := t.cpu.c, d := t.cpu.d, e := t.cpu.e, h := t.cpu.h, l := t.cpu.l, f := t.cpu.f }
    cycles := cost }

/-- `i` completes: register `d` receives `v`, and every other register, the flags, SP, PC, every other field and every byte of memory are
unchanged. -/
def SetsReg (i : Instr) (d : Reg8) (v : Byte) (cost : Nat) (s : State) : Prop :=
  ∃ t, exec i s = .next t ∧ t.reg d = v ∧ (∀ q, q ≠ d → t.reg q = s.reg q) ∧ OnlyRegs cost s t ∧ SameMemory s t

/-- `i` completes: register `d` receives `v`, the flags become `f`, and everything else is unchanged. -/
def SetsRegFlags (i : Instr) (d : Reg8) (v : Byte) (f : Flags) (cost : Nat) (s : State) : Prop :=
  ∃ t, exec i s = .next t ∧ t.reg d = v ∧ t.cpu.f = f ∧ (∀ q, q ≠ d → t.reg q = s.reg q) ∧ OnlyRegsFlags cost s t ∧ SameMemory s t

/-- `i` completes: the pair `p` receives `v`, the flags become `f`, and every register outside the pair, every other field and every byte
of memory are unchanged. -/
def SetsPairFlags (i : Instr) (p : Pair) (v : Word) (f : Flags) (cost : Nat) (s : State) : Prop :=
  ∃ t, exec i s = .next t ∧ t.pair p = v ∧ t.cpu.f = f ∧ (∀ q, q ≠ p → t.pair q = s.pair q) ∧ t.cpu.a = s.cpu.a ∧
    t = { s with
      cpu := { s.cpu with
        b := t.cpu.b, c := t.cpu.c, d := t.cpu.d, e := t.cpu.e, h := t.cpu.h, l := t.cpu.l, sp := t.cpu.sp, f := t.cpu.f }
      cycles := cost } ∧
    SameMemory s t

/-- `i` completes: it performs the one bus write of `v` at `a`, and changes no register and no flag. -/
def StoresByte (i : Instr) (a : Word) (v : Byte) (cost : Nat) (s : State) : Prop :=
  ∃ t, exec i s = .next t ∧ t = { write8 a v s with cycles := cost } ∧ t.cpu = s.cpu ∧ StoredByte a v s t

/-- `i` completes: it performs the one bus write of `v` at HL, the flags become `f`, and no other register changes. -/
def StoresByteFlags (i : Instr) (v : Byte) (f : Flags) (cost : Nat) (s : State) : Prop :=
  ∃ t, exec i s = .next t ∧ t = { write8 (s.pair .HL) v s with cpu := { s.cpu with f := f }, cycles := cost } ∧
    StoredByte (s.pair .HL) v s t

/-- `i` completes: PC becomes `a`, and everything else is unchanged. -/
def SetsPc (i : Instr) (a : Word) (cost : Nat) (s : State) : Prop :=
  exec i s = .next { s with cpu := { s.cpu with pc := a }, cycles := cost }

/-- `i` completes: PC is pushed, high byte first, and becomes `a`; no other register changes. -/
def CallsTo (i : Instr) (a : Word) (cost : Nat) (s : State) : Prop :=
  ∃ t, exec i s = .next t ∧
    t = { write8 (s.cpu.sp - 2) (loByte s.cpu.pc) (write8 (s.cpu.sp - 1) (hiByte s.cpu.pc) s) with
      cpu := { s.cpu with sp := s.cpu.sp - 2, pc := a }, cycles := cost } ∧
    PushedWord s.cpu.pc s t

/-- `P` holds of the three operand forms of an ALU operation: the instruction, its operand byte and its cost (42_alu8.md R250). -/
def AluForms (op : AluOp) (s : State) (P : Instr → Byte → Nat → Prop) : Prop :=
  (∀ r, P (Instr.aluReg op r) (s.reg r) 4) ∧ P (Instr.aluAtHL op) (read8 (s.pair .HL) s) 8 ∧ ∀ n, P (Instr.aluN op n) n 8

/-- The law of R314, bit by bit: `res` is `v` moved one place (or its nibbles exchanged), `c` the bit moved out. -/
def RotLaw (op : RotOp) (v : Byte) (cin : Bool) (res : Byte) (c : Bool) : Prop :=
  match op with
  | .rlc => c = v.getLsbD 7 ∧ res = (v <<< 1) ||| (v >>> 7)
  | .rrc => c = v.getLsbD 0 ∧ res = (v >>> 1) ||| (v <<< 7)
  | .rl => c = v.getLsbD 7 ∧ res = (v <<< 1) ||| (if cin then 1 else 0)
  | .rr => c = v.getLsbD 0 ∧ res = (v >>> 1) ||| (if cin then 0x80 else 0)
  | .sla => c = v.getLsbD 7 ∧ res = v <<< 1
  | .sra => c = v.getLsbD 0 ∧ res = (v >>> 1) ||| (v &&& 0x80)
  | .swap => c = false ∧ res = ((v &&& 0x0F) <<< 4) ||| (v >>> 4)
  | .srl => c = v.getLsbD 0 ∧ res = v >>> 1

/-- What a condition tests (R350). -/
def CondTrue (c : Cond) (f : Flags) : Prop :=
  match c with
  | .NZ => f.z = false
  | .Z => f.z = true
  | .NC => f.c = false
  | .C => f.c = true

/-- The place in the frame, 0 to 70223, of a mode, its clock and a line (R484). -/
def framePosition (p : Ppu) : Nat :=
  456 * p.ly.toNat + p.modeClock + (match p.mode with | .oamSearch | .vblank => 0 | .transfer => 80 | .hblank => 252)

/-- An array in its canonical form, every offset below its size. -/
def Memory.ok (size : Nat) (m : Memory) : Prop := m.wf = true ∧ m.within size = true

/-- The cartridge's invariant: canonical arrays inside their sizes, and bank fields in the range their controller gives them
(10_state.md R35, 21_cartridge.md R141 to R149). -/
structure Cart.Inv (c : Cart) : Prop where
  rom : Memory.ok (c.romBanks * 0x4000) c.rom
  xram : Memory.ok c.xramSize c.xram
  /-- "BANK_LO is never 0" (R136). -/
  bankLo : c.bankLo ≠ 0
  romOnly : c.kind = .romOnly → c.ramEn = false ∧ c.bankLo = 1 ∧ c.bankHi = 0 ∧ c.bankMode = false
  mbc1 : c.kind = .mbc1 → c.bankLo.toNat < 32 ∧ c.bankHi.toNat < 4
  /-- "BANK_MODE stays 0" (R149). -/
  mbc3 : c.kind = .mbc3 → c.bankMode = false

/-- The pixel unit's invariant: a legal position in the frame (62_ppu.md R475, R481, R482), canonical video RAM, and whole rows only in
FRAME (R464). -/
structure Ppu.Inv (p : Ppu) : Prop where
  clock : p.modeClock < p.mode.duration
  ly : p.ly.toNat ≤ 153
  vblank : p.mode = .vblank ↔ 144 ≤ p.ly.toNat
  off : p.lcdc.getLsbD 7 = false → p.mode = .hblank ∧ p.modeClock = 0 ∧ p.ly = 0
  vram : Memory.ok 0x2000 p.vram
  frameRows : ∀ e ∈ p.frame, e.1 < 144 ∧ e.2.length = 160
  frameRising : (p.frame.map Prod.fst).Pairwise (· < ·)

/-- The invariant of the machine: `step` keeps it, and the state after reset has it. -/
structure State.Inv (s : State) : Prop where
  cart : s.cart.Inv
  ppu : s.ppu.Inv
  wram : Memory.ok 0x2000 s.wram
  hram : Memory.ok 127 s.hram
  snd : Memory.ok 48 s.snd
  boot : ∀ image, s.boot = some image → Memory.ok 256 image
  /-- "When no boot image is supplied BOOT_OFF is 1" (10_state.md R34). -/
  bootOff : s.boot = none → s.bootOff = true
  /-- The one kind of fault a running machine can reach (60_exceptions.md R408). -/
  fault : ∀ r, s.fault = some r → r.kind = .illegalOpcode

/-- A parked machine: halted with no interrupt source enabled (60_exceptions.md R431 c). -/
def State.Parked (s : State) : Prop := s.fault = none ∧ s.cpu.halted = true ∧ s.ie = 0

/-- A run of `k` steps is safe: every step answers a next state and none of them has a fault. -/
def RunsSafely : Nat → State → Prop
  | 0, s => s.fault = none
  | k + 1, s => s.fault = none ∧ ∃ t, step s = .next t ∧ RunsSafely k t

end Sys2Proof.Machine
end

