-- ==== Sys2Proof/WellFormed.lean ====
section
/-!
DEFINITION. Which terms are instructions with an encoding of their own. Every operand's range is its type's (R163), so the one check is
that the term is not the row PREFIX_CB: the prefix byte "is not an instruction of its own" (46_system.md R376), and its bytes are the
extended instruction's.
-/

namespace Sys2Proof

/-- The row PREFIX_CB, the first half of an extended instruction (R376). -/
def Instr.isPrefixRow : Instr → Bool
  | .prefix_CB _ => true
  | _ => false

/-- The well-formed instructions: those with an encoding of their own (R160, R376). -/
def Instr.wf (i : Instr) : Bool := !i.isPrefixRow

end Sys2Proof
end

