-- ==== Sys2Proof/Certificates/Slice0/Obligations.lean ====
section
/-!
DEFINITION. The statements for the provers. A `next` state of `exec` has PC already past the instruction's bytes; `cycles` is the cost the
instruction returns. "Reads" are bus reads, `read8`. No statement rests on what a byte nothing has written reads as (log 2).
-/

open Sys2Proof Sys2Proof.Machine

/-! Encoding. -/

/-- The bytes of a few instructions, from the opcode maps R171 and R172, decode to them; and the forms with a field have the byte patterns of
their rules, with the field numbers of R164 to R167. -/
def Obligations.DecodedWords : Prop :=
  decode [0x41] = .ok (.ld_B_C, []) ∧
  decode [0x3E, 0x7F] = .ok (.ld_A_n 0x7F, []) ∧
  decode [0x31, 0xFE, 0xFF, 0x00] = .ok (.ld_SP_nn 0xFFFE, [0x00]) ∧
  decode [0xF5] = .ok (.push_AF, []) ∧
  decode [0x8E] = .ok (.adc_A_atHL, []) ∧
  decode [0x39] = .ok (.add_HL_SP, []) ∧
  decode [0xCB, 0x37] = .ok (.swap_A, []) ∧
  decode [0xCB, 0x65] = .ok (.bit_4_L, []) ∧
  decode [0xDC, 0x00, 0x30] = .ok (.call_C_nn 0x3000, []) ∧
  decode [0xFB] = .ok (.ei, []) ∧
  decode [0xD3] = .ok (.illegal_D3, []) ∧
  decode [0xCB] = .error (.truncated 0xCB) ∧
  (let R : Reg8 → Nat := fun r => match r with | .B => 0 | .C => 1 | .D => 2 | .E => 3 | .H => 4 | .L => 5 | .A => 7
   let RP : Pair → Nat := fun p => match p with | .BC => 0 | .DE => 1 | .HL => 2 | .SP => 3
   let RP2 : StackPair → Nat := fun p => match p with | .BC => 0 | .DE => 1 | .HL => 2 | .AF => 3
   let CC : Cond → Nat := fun c => match c with | .NZ => 0 | .Z => 1 | .NC => 2 | .C => 3
   let ALU : AluOp → Nat := fun o =>
     match o with | .add => 0 | .adc => 1 | .sub => 2 | .sbc => 3 | .and => 4 | .xor => 5 | .or => 6 | .cp => 7
   let ROT : RotOp → Nat := fun o =>
     match o with | .rlc => 0 | .rrc => 1 | .rl => 2 | .rr => 3 | .sla => 4 | .sra => 5 | .swap => 6 | .srl => 7
   let op (n : Nat) : Byte := BitVec.ofNat 8 n
   ∀ (d r : Reg8) (p : Pair) (q : StackPair) (c : Cond) (a : AluOp) (o : RotOp) (b : Fin 8) (n : Byte) (nn : Word),
     encode (Instr.ldRegReg d r) = [op (64 + 8 * R d + R r)] ∧ encode (Instr.ldRegN d n) = [op (6 + 8 * R d), n] ∧
     encode (Instr.ldRegAtHL d) = [op (70 + 8 * R d)] ∧ encode (Instr.ldAtHLReg r) = [op (112 + R r)] ∧
     encode (Instr.ldPairNN p nn) = [op (1 + 16 * RP p), nn.extractLsb' 0 8, nn.extractLsb' 8 8] ∧
     encode (Instr.push q) = [op (197 + 16 * RP2 q)] ∧ encode (Instr.pop q) = [op (193 + 16 * RP2 q)] ∧
     encode (Instr.aluReg a r) = [op (128 + 8 * ALU a + R r)] ∧ encode (Instr.aluAtHL a) = [op (134 + 8 * ALU a)] ∧
     encode (Instr.aluN a n) = [op (198 + 8 * ALU a), n] ∧
     encode (Instr.incReg r) = [op (4 + 8 * R r)] ∧ encode (Instr.decReg r) = [op (5 + 8 * R r)] ∧
     encode (Instr.addHL p) = [op (9 + 16 * RP p)] ∧ encode (Instr.incPair p) = [op (3 + 16 * RP p)] ∧
     encode (Instr.decPair p) = [op (11 + 16 * RP p)] ∧
     encode (Instr.rotReg o r) = [0xCB, op (8 * ROT o + R r)] ∧ encode (Instr.rotAtHL o) = [0xCB, op (6 + 8 * ROT o)] ∧
     encode (Instr.bitReg b r) = [0xCB, op (64 + 8 * b + R r)] ∧ encode (Instr.bitAtHL b) = [0xCB, op (70 + 8 * b)] ∧
     encode (Instr.resReg b r) = [0xCB, op (128 + 8 * b + R r)] ∧ encode (Instr.resAtHL b) = [0xCB, op (134 + 8 * b)] ∧
     encode (Instr.setReg b r) = [0xCB, op (192 + 8 * b + R r)] ∧ encode (Instr.setAtHL b) = [0xCB, op (198 + 8 * b)] ∧
     encode (Instr.jpCond c nn) = [op (194 + 8 * CC c), nn.extractLsb' 0 8, nn.extractLsb' 8 8] ∧
     encode (Instr.jrCond c n) = [op (32 + 8 * CC c), n] ∧
     encode (Instr.callCond c nn) = [op (196 + 8 * CC c), nn.extractLsb' 0 8, nn.extractLsb' 8 8] ∧
     encode (Instr.retCond c) = [op (192 + 8 * CC c)] ∧ encode (Instr.rst b) = [op (199 + 8 * b)])

/-- Decoding the encoding of any well-formed instruction, whatever bytes follow, gives the instruction back and leaves those bytes. -/
def Obligations.DecodeInvertsEncode : Prop :=
  ∀ (i : Instr) (rest : List Byte), i.wf = true → decode (encode i ++ rest) = .ok (i, rest)

/-- Whatever bytes decode, they are the encoding of the well-formed instruction they decode to and the rest; and bytes are rejected only
when they end inside an instruction: the opcode byte alone decides the length (R160). -/
def Obligations.EncodeInvertsDecode : Prop :=
  (∀ (bs : List Byte) (i : Instr) (rest : List Byte), decode bs = .ok (i, rest) → i.wf = true ∧ encode i ++ rest = bs) ∧
  decode [] = .error .noBytes ∧
  ∀ (op : Byte) (rest : List Byte), (∃ r, decode (op :: rest) = .ok r) ↔ opLength op ≤ rest.length + 1

/-! 8-bit loads. -/

/-- Every 8-bit load into a register receives its source byte, and changes nothing else: no flag, no memory (R200 to R202, R205, R206,
R209, R211, R213). The address is formed before the register is written. -/
def Obligations.ByteLoads : Prop :=
  ∀ s : State,
    (∀ d r, SetsReg (Instr.ldRegReg d r) d (s.reg r) 4 s) ∧
    (∀ d n, SetsReg (Instr.ldRegN d n) d n 8 s) ∧
    (∀ d, SetsReg (Instr.ldRegAtHL d) d (read8 (s.pair .HL) s) 8 s) ∧
    SetsReg .ld_A_atBC .A (read8 (s.pair .BC) s) 8 s ∧
    SetsReg .ld_A_atDE .A (read8 (s.pair .DE) s) 8 s ∧
    (∀ nn, SetsReg (.ld_A_atnn nn) .A (read8 nn s) 16 s) ∧
    (∀ n, SetsReg (.ldh_A_atn n) .A (read8 (0xFF00 + n.setWidth 16) s) 12 s) ∧
    SetsReg .ldh_A_atC .A (read8 (0xFF00 + s.cpu.c.setWidth 16) s) 8 s

/-- Every 8-bit store makes its one bus write and changes no register and no flag (R203, R204, R207, R208, R210, R212, R214); what memory
reads as afterwards is `StoredByte`. -/
def Obligations.ByteStores : Prop :=
  ∀ s : State,
    (∀ r, StoresByte (Instr.ldAtHLReg r) (s.pair .HL) (s.reg r) 8 s) ∧
    (∀ n, StoresByte (.ld_atHL_n n) (s.pair .HL) n 12 s) ∧
    StoresByte .ld_atBC_A (s.pair .BC) s.cpu.a 8 s ∧
    StoresByte .ld_atDE_A (s.pair .DE) s.cpu.a 8 s ∧
    (∀ nn, StoresByte (.ld_atnn_A nn) nn s.cpu.a 16 s) ∧
    (∀ n, StoresByte (.ldh_atn_A n) (0xFF00 + n.setWidth 16) s.cpu.a 12 s) ∧
    StoresByte .ldh_atC_A (0xFF00 + s.cpu.c.setWidth 16) s.cpu.a 8 s

/-- The load-and-step forms move a byte between A and the address HL holds before the step, and HL moves by one, wrapping; no flag
changes (R215 to R218). -/
def Obligations.LoadAndStep : Prop :=
  ∀ s : State, ∀ step : Word,
    let hl := s.pair .HL
    let moved := { s.cpu with h := hiByte (hl + step), l := loByte (hl + step) }
    (∀ i, (i = .ld_atHLinc_A ∧ step = 1) ∨ (i = .ld_atHLdec_A ∧ step = 0xFFFF) →
      ∃ t, exec i s = .next t ∧ t = { write8 hl s.cpu.a s with cpu := moved, cycles := 8 } ∧ t.pair .HL = hl + step ∧
        StoredByte hl s.cpu.a s t) ∧
    (∀ i, (i = .ld_A_atHLinc ∧ step = 1) ∨ (i = .ld_A_atHLdec ∧ step = 0xFFFF) →
      ∃ t, exec i s = .next t ∧ t = { s with cpu := { moved with a := read8 hl s }, cycles := 8 } ∧ t.pair .HL = hl + step ∧
        SameMemory s t)

/-! 16-bit loads and the stack. -/

/-- LD rr,nn and LD SP,HL set the pair and change nothing else (R230, R232). LD HL,SP+e and ADD SP,e: the displacement is signed and the
sum wraps; Z and N are cleared, H and C are the carries of the unsigned addition of the low bytes (R233, R303, R304). -/
def Obligations.WordLoads : Prop :=
  ∀ (s : State) (e : Byte),
    let sum : Word := BitVec.ofInt 16 ((s.cpu.sp.toNat : Int) + e.toInt)
    let f : Flags :=
      { z := false, n := false
        h := decide (s.cpu.sp.toNat % 16 + e.toNat % 16 ≥ 16)
        c := decide (s.cpu.sp.toNat % 256 + e.toNat ≥ 256) }
    (∀ p nn, SetsPairFlags (Instr.ldPairNN p nn) p nn s.cpu.f 12 s) ∧
    SetsPairFlags .ld_SP_HL .SP (s.pair .HL) s.cpu.f 8 s ∧
    SetsPairFlags (.ld_HL_SPe e) .HL sum f 12 s ∧
    SetsPairFlags (.add_SP_e e) .SP sum f 16 s

/-- LD (nn),SP makes two bus writes, the low byte first (R231, R72); PUSH makes two, the high byte first, and lowers SP by 2; neither
changes another register or a flag. Where both bytes of a push reach plain storage, `PushedWord` is what memory reads as (R236). -/
def Obligations.WordStores : Prop :=
  ∀ s : State,
    (∀ nn, exec (.ld_atnn_SP nn) s =
      .next { write8 (nn + 1) (hiByte s.cpu.sp) (write8 nn (loByte s.cpu.sp) s) with cycles := 20 }) ∧
    (∀ nn lo hi, cellOf nn s = some lo → cellOf (nn + 1) s = some hi → ∀ t, exec (.ld_atnn_SP nn) s = .next t →
      ∀ x, read8 x t =
        if cellOf x s = some hi then hiByte s.cpu.sp else if cellOf x s = some lo then loByte s.cpu.sp else read8 x s) ∧
    ∀ q, ∃ t, exec (Instr.push q) s = .next t ∧
      t = { write8 (s.cpu.sp - 2) (loByte (s.stackPair q)) (write8 (s.cpu.sp - 1) (hiByte (s.stackPair q)) s) with
        cpu := { s.cpu with sp := s.cpu.sp - 2 }, cycles := 16 } ∧
      PushedWord (s.stackPair q) s t

/-- POP loads the pair from the low byte at SP and the high byte above it, and raises SP by 2; POP AF takes the flags from bits 7 to 4 of
the low byte. No other register, no other flag and no memory changes (R237, R238). -/
def Obligations.WordPops : Prop :=
  ∀ s : State,
    let lo := read8 s.cpu.sp s
    let hi := read8 (s.cpu.sp + 1) s
    let cpu := { s.cpu with sp := s.cpu.sp + 2 }
    exec .pop_BC s = .next { s with cpu := { cpu with b := hi, c := lo }, cycles := 12 } ∧
    exec .pop_DE s = .next { s with cpu := { cpu with d := hi, e := lo }, cycles := 12 } ∧
    exec .pop_HL s = .next { s with cpu := { cpu with h := hi, l := lo }, cycles := 12 } ∧
    exec .pop_AF s = .next { s with
      cpu := { cpu with a := hi, f := { z := lo.getLsbD 7, n := lo.getLsbD 6, h := lo.getLsbD 5, c := lo.getLsbD 4 } }, cycles := 12 }

/-- A PUSH and then a POP, both stack bytes in different cells of plain storage, bring SP back and give the pair the pushed value; its low
nibble is 0 where the value or the destination is AF. -/
def Obligations.PushThenPop : Prop :=
  ∀ (s t : State) (from_ to_ : StackPair) (hi lo : Cell),
    cellOf (s.cpu.sp - 1) s = some hi → cellOf (s.cpu.sp - 2) s = some lo → hi ≠ lo → exec (Instr.push from_) s = .next t →
    ∃ u, exec (Instr.pop to_) t = .next u ∧ u.cpu.sp = s.cpu.sp ∧
      u.stackPair to_ = if from_ = .AF ∨ to_ = .AF then s.stackPair from_ &&& 0xFFF0#16 else s.stackPair from_

/-! 8-bit arithmetic and logic. -/

/-- ADD and ADC on every operand form: the result modulo 256, Z from it, N clear, H the carry out of bit 3, C the carry out of bit 7; ADC
adds the old carry (R251, R253 to R258). -/
def Obligations.Additions : Prop :=
  ∀ (s : State) (op : AluOp) (cin : Bool), op = .add ∧ cin = false ∨ op = .adc ∧ cin = s.cpu.f.c →
    AluForms op s fun i b cost =>
      let a := s.cpu.a
      let res := a + b + cin.toNat
      SetsRegFlags i .A res
        { z := decide (res = 0), n := false, h := decide (a.toNat % 16 + b.toNat % 16 + cin.toNat > 15)
          c := decide (a.toNat + b.toNat + cin.toNat > 255) } cost s

/-- SUB, SBC and CP on every operand form: the difference modulo 256 (CP keeps A), Z from the difference, N set, H the borrow out of bit 3,
C the borrow out of bit 7; SBC subtracts the old carry (R252, R259 to R264, R274 to R276). -/
def Obligations.Subtractions : Prop :=
  ∀ (s : State) (op : AluOp) (cin : Bool),
    op = .sub ∧ cin = false ∨ op = .sbc ∧ cin = s.cpu.f.c ∨ op = .cp ∧ cin = false →
    AluForms op s fun i b cost =>
      let a := s.cpu.a
      let res := a - b - cin.toNat
      SetsRegFlags i .A (if op = .cp then a else res)
        { z := decide (res = 0), n := true, h := decide (a.toNat % 16 < b.toNat % 16 + cin.toNat)
          c := decide (a.toNat < b.toNat + cin.toNat) } cost s

/-- AND, XOR and OR on every operand form: the bitwise result, Z from it, H set by AND alone, N and C clear (R265 to R273). -/
def Obligations.LogicOperations : Prop :=
  ∀ s : State,
    let sets (h : Bool) (combine : Byte → Byte → Byte) := fun (i : Instr) (b : Byte) (cost : Nat) =>
      SetsRegFlags i .A (combine s.cpu.a b)
        { z := decide (combine s.cpu.a b = 0), n := false, h := h, c := false } cost s
    AluForms .and s (sets true (· &&& ·)) ∧ AluForms .xor s (sets false (· ^^^ ·)) ∧ AluForms .or s (sets false (· ||| ·))

/-- 8-bit INC and DEC of a register and of the byte at HL: the carry flag is untouched; on memory, one read and one write of the result,
the flags from the value read (R277 to R280). -/
def Obligations.IncrementsDecrements : Prop :=
  ∀ s : State,
    let incFlags (old : Byte) : Flags :=
      { z := decide (old = 0xFF), n := false, h := decide (old.toNat % 16 = 15), c := s.cpu.f.c }
    let decFlags (old : Byte) : Flags :=
      { z := decide (old = 1), n := true, h := decide (old.toNat % 16 = 0), c := s.cpu.f.c }
    let m := read8 (s.pair .HL) s
    (∀ r, SetsRegFlags (Instr.incReg r) r (s.reg r + 1) (incFlags (s.reg r)) 4 s) ∧
    (∀ r, SetsRegFlags (Instr.decReg r) r (s.reg r - 1) (decFlags (s.reg r)) 4 s) ∧
    StoresByteFlags .inc_atHL (m + 1) (incFlags m) 12 s ∧
    StoresByteFlags .dec_atHL (m - 1) (decFlags m) 12 s

/-- DAA, CPL, SCF and CCF: A, the flags each writes, and nothing else (R281 to R284). -/
def Obligations.AccumulatorAdjustments : Prop :=
  ∀ s : State,
    let a := s.cpu.a
    let f := s.cpu.f
    let low := f.h = true ∨ (f.n = false ∧ a.toNat % 16 > 9)
    let high := f.c = true ∨ (f.n = false ∧ a.toNat > 0x99)
    let adj : Nat := (if low then 0x06 else 0) + (if high then 0x60 else 0)
    let res : Byte := BitVec.ofInt 8 (if f.n then (a.toNat : Int) - adj else a.toNat + adj)
    SetsRegFlags .daa .A res { z := decide (res = 0), n := f.n, h := false, c := decide high } 4 s ∧
    SetsRegFlags .cpl .A (~~~a) { f with n := true, h := true } 4 s ∧
    SetsRegFlags .scf .A a { f with n := false, h := false, c := true } 4 s ∧
    SetsRegFlags .ccf .A a { f with n := false, h := false, c := !f.c } 4 s

/-- What DAA is for: after an ADD or ADC, or a SUB or SBC, of packed-BCD operands, it leaves the two decimal digits of the decimal sum or
difference in A and the decimal carry or borrow in C. -/
def Obligations.DecimalArithmetic : Prop :=
  ∀ (s : State) (x1 x0 y1 y0 : Nat) (cin : Bool), x1 < 10 → x0 < 10 → y1 < 10 → y0 < 10 →
    let x := 10 * x1 + x0
    let y := 10 * y1 + y0
    let bcd (d : Nat) : Byte := BitVec.ofNat 8 (16 * (d / 10) + d % 10)
    let start := { s with cpu := { s.cpu with a := bcd x, f := { s.cpu.f with c := cin } } }
    (∃ t u, exec (.adc_A_n (bcd y)) start = .next t ∧ exec .daa t = .next u ∧
      u.cpu.a = bcd ((x + y + cin.toNat) % 100) ∧ u.cpu.f.c = decide (x + y + cin.toNat ≥ 100)) ∧
    (∃ t u, exec (.sbc_A_n (bcd y)) start = .next t ∧ exec .daa t = .next u ∧
      u.cpu.a = bcd ((100 + x - y - cin.toNat) % 100) ∧ u.cpu.f.c = decide (x < y + cin.toNat))

/-! 16-bit arithmetic. -/

/-- ADD HL,rr: the sum modulo 65536, N clear, H out of bit 11, C out of bit 15, Z untouched; INC rr and DEC rr wrap and set no flag (R300
to R302). -/
def Obligations.PairArithmetic : Prop :=
  ∀ (s : State) (p : Pair),
    let a := s.pair .HL
    let b := s.pair p
    SetsPairFlags (Instr.addHL p) .HL (a + b)
      { z := s.cpu.f.z, n := false, h := decide (a.toNat % 4096 + b.toNat % 4096 > 4095), c := decide (a.toNat + b.toNat > 65535) } 8 s ∧
    SetsPairFlags (Instr.incPair p) p (b + 1) s.cpu.f 8 s ∧
    SetsPairFlags (Instr.decPair p) p (b - 1) s.cpu.f 8 s

/-! Rotates, shifts and bits. -/

/-- RLCA, RRCA, RLA and RRA rotate A and always clear Z (R310 to R313). -/
def Obligations.AccumulatorRotates : Prop :=
  ∀ s : State, ∀ i op,
    (i = .rlca ∧ op = .rlc) ∨ (i = .rrca ∧ op = .rrc) ∨ (i = .rla ∧ op = .rl) ∨ (i = .rra ∧ op = .rr) →
    ∃ res c, RotLaw op s.cpu.a s.cpu.f.c res c ∧ SetsRegFlags i .A res { z := false, n := false, h := false, c := c } 4 s

/-- The eight extended rotates and shifts on a register, by the law of R314, with Z from the result (R315, R317, R319, R321, R323, R325,
R327, R329). -/
def Obligations.RegisterRotates : Prop :=
  ∀ (s : State) (op : RotOp) (r : Reg8),
    ∃ res c, RotLaw op (s.reg r) s.cpu.f.c res c ∧
      SetsRegFlags (Instr.rotReg op r) r res { z := decide (res = 0), n := false, h := false, c := c } 8 s

/-- The same on the byte at HL: one read, one write, the flags from the computed result (R316, R318, R320, R322, R324, R326, R328,
R330). -/
def Obligations.MemoryRotates : Prop :=
  ∀ (s : State) (op : RotOp),
    ∃ res c, RotLaw op (read8 (s.pair .HL) s) s.cpu.f.c res c ∧
      StoresByteFlags (Instr.rotAtHL op) res { z := decide (res = 0), n := false, h := false, c := c } 16 s

/-- BIT: Z when the tested bit is 0, N clear, H set, C and every register and byte unchanged (R331, R332). -/
def Obligations.BitTests : Prop :=
  ∀ (s : State) (b : Fin 8),
    let sets (i : Instr) (v : Byte) (cost : Nat) :=
      SetsRegFlags i .A s.cpu.a { z := decide (v.toNat / 2 ^ b.val % 2 = 0), n := false, h := true, c := s.cpu.f.c } cost s
    (∀ r, sets (Instr.bitReg b r) (s.reg r) 8) ∧ sets (Instr.bitAtHL b) (read8 (s.pair .HL) s) 12

/-- RES and SET: one bit cleared or set, no flag changed, on a register and on the byte at HL (R333 to R336). -/
def Obligations.BitResetsAndSets : Prop :=
  ∀ (s : State) (b : Fin 8),
    let cleared (v : Byte) : Byte := v &&& ~~~(1#8 <<< b.val)
    let set (v : Byte) : Byte := v ||| (1#8 <<< b.val)
    let m := read8 (s.pair .HL) s
    (∀ r, SetsReg (Instr.resReg b r) r (cleared (s.reg r)) 8 s) ∧
    StoresByte (Instr.resAtHL b) (s.pair .HL) (cleared m) 16 s ∧
    (∀ r, SetsReg (Instr.setReg b r) r (set (s.reg r)) 8 s) ∧
    StoresByte (Instr.setAtHL b) (s.pair .HL) (set m) 16 s

/-! Control transfer. -/

/-- JP nn, JP HL, JP cc,nn, JR e and JR cc,e: PC becomes the target, or stays past the operand when the condition fails; nothing else
changes. A relative target is the signed displacement added to the address after the operand, modulo 65536 (R350 to R355). -/
def Obligations.Jumps : Prop :=
  ∀ (s : State) (nn : Word) (e : Byte) (c : Cond),
    let target : Word := BitVec.ofInt 16 ((s.cpu.pc.toNat : Int) + e.toInt)
    SetsPc (.jp_nn nn) nn 16 s ∧
    SetsPc .jp_HL (s.pair .HL) 4 s ∧
    (CondTrue c s.cpu.f → SetsPc (Instr.jpCond c nn) nn 16 s) ∧
    (¬CondTrue c s.cpu.f → SetsPc (Instr.jpCond c nn) s.cpu.pc 12 s) ∧
    SetsPc (.jr_e e) target 12 s ∧
    (CondTrue c s.cpu.f → SetsPc (Instr.jrCond c e) target 12 s) ∧
    (¬CondTrue c s.cpu.f → SetsPc (Instr.jrCond c e) s.cpu.pc 8 s)

/-- CALL, CALL cc and RST push the address of the next instruction, high byte first, and jump; a call not taken leaves SP and memory (R356,
R357, R362). -/
def Obligations.Calls : Prop :=
  ∀ (s : State) (nn : Word) (c : Cond) (y : Fin 8),
    CallsTo (.call_nn nn) nn 24 s ∧
    (CondTrue c s.cpu.f → CallsTo (Instr.callCond c nn) nn 24 s) ∧
    (¬CondTrue c s.cpu.f → SetsPc (Instr.callCond c nn) s.cpu.pc 12 s) ∧
    CallsTo (Instr.rst y) (BitVec.ofNat 16 (8 * y.val)) 16 s

/-- RET, RET cc and RETI pop PC, the low byte at SP; RETI also sets IME at once and cancels a pending enable (R358, R359, R361). -/
def Obligations.Returns : Prop :=
  ∀ (s : State) (c : Cond),
    let popped := { s.cpu with sp := s.cpu.sp + 2, pc := mkWord (read8 (s.cpu.sp + 1) s) (read8 s.cpu.sp s) }
    exec .ret s = .next { s with cpu := popped, cycles := 16 } ∧
    (CondTrue c s.cpu.f → exec (Instr.retCond c) s = .next { s with cpu := popped, cycles := 20 }) ∧
    (¬CondTrue c s.cpu.f → exec (Instr.retCond c) s = .next { s with cycles := 8 }) ∧
    exec .reti s = .next { s with cpu := { popped with ime := true, imePending := false }, cycles := 16 }

/-- A call, or a restart, and then a return come back to the instruction after it with SP as it was, where the two stack bytes lie in
different cells of plain storage; every cell but those two reads as before. -/
def Obligations.CallThenReturn : Prop :=
  ∀ (s t : State) (i : Instr) (hi lo : Cell),
    (∃ nn, i = .call_nn nn) ∨ (∃ y, i = Instr.rst y) →
    cellOf (s.cpu.sp - 1) s = some hi → cellOf (s.cpu.sp - 2) s = some lo → hi ≠ lo → exec i s = .next t →
    ∃ u, exec .ret t = .next u ∧ u.cpu = s.cpu ∧
      ∀ x, cellOf x s ≠ some hi → cellOf x s ≠ some lo → read8 x u = read8 x s

/-! Processor control, the prefix, the illegal opcodes. -/

/-- NOP, HALT, DI and EI: the one field each writes (R370, R371, R374, R375). -/
def Obligations.ProcessorControl : Prop :=
  ∀ s : State,
    exec .nop s = .next { s with cycles := 4 } ∧
    exec .halt s = .next { s with cpu := { s.cpu with halted := true }, cycles := 4 } ∧
    exec .di s = .next { s with cpu := { s.cpu with ime := false, imePending := false }, cycles := 4 } ∧
    exec .ei s = .next { s with cpu := { s.cpu with imePending := true }, cycles := 4 }

/-- STOP as its parameter says, whatever the padding byte: no successor under `refuse`, as HALT under `halt`, as NOP under `nop`
(R372; 92_eei_decisions.md D10). -/
def Obligations.StopFollowsParameter : Prop :=
  ∀ (s : State) (pad : Byte),
    (s.params.stop = .refuse → exec (.stop pad) s = .refused .stopUnspecified) ∧
    (s.params.stop = .halt → exec (.stop pad) s = .next { s with cpu := { s.cpu with halted := true }, cycles := 4 }) ∧
    (s.params.stop = .nop → exec (.stop pad) s = .next { s with cycles := 4 })

/-- An illegal opcode enters the FAULT state with the address of the opcode byte and the byte, returns no cycles and changes nothing else
(R377, R401, R400). -/
def Obligations.IllegalOpcodesFault : Prop :=
  ∀ (s : State) (op : IllegalOp), ∃ byte : Byte, encode (Instr.illegal op) = [byte] ∧
    byte ∈ [0xD3, 0xDB, 0xDD, 0xE3, 0xE4, 0xEB, 0xEC, 0xED, 0xF4, 0xFC, 0xFD] ∧
    exec (Instr.illegal op) s =
      .next { s with fault := some { kind := .illegalOpcode, address := s.cpu.pc - 1, value := byte }, cycles := 0 }

/-- The row PREFIX_CB with a second byte runs the one extended instruction those two bytes decode to, and completes, for all 256 second
bytes (R376). -/
def Obligations.PrefixRunsExtended : Prop :=
  ∀ (s : State) (op2 : Byte), ∃ i t, decode [0xCB, op2] = .ok (i, []) ∧ exec i s = .next t ∧ exec (.prefix_CB op2) s = .next t

/-! Memory. -/

/-- Every bus write. In plain storage, in open sprite memory and where the bus drops it, `StoredByte` says what each address reads as; at
any address, what is not in `storeTouches` reads as before (what a device register, the ROM range and the DMA trigger lead to is in
RegisterStores, DividerStore, DisplaySwitch, OamDma and BankControlWrites). No write changes the processor, the cartridge image, the
boot image, FRAME or FAULT (R71, R76). -/
def Obligations.BusWrites : Prop :=
  ∀ (s : State) (a : Word) (v : Byte),
    let t := write8 a v s
    StoredByte a v s t ∧ (writeDropped a s = true → t = s) ∧ (∀ x, storeTouches a x s = false → read8 x t = read8 x s) ∧
      t.cpu = s.cpu ∧ t.cart.rom = s.cart.rom ∧ t.boot = s.boot ∧ t.ppu.frame = s.ppu.frame ∧ t.fault = s.fault

/-- The echo: for every offset below 0x1E00, a byte written at 0xC000 + o is read at 0xE000 + o, and the other way round; the last 0x200
bytes of work RAM have no echo (R82). -/
def Obligations.EchoOfWorkRam : Prop :=
  ∀ (s : State) (o : Nat) (v : Byte), o < 0x1E00 →
    read8 (BitVec.ofNat 16 (0xE000 + o)) (write8 (BitVec.ofNat 16 (0xC000 + o)) v s) = v ∧
    read8 (BitVec.ofNat 16 (0xC000 + o)) (write8 (BitVec.ofNat 16 (0xE000 + o)) v s) = v ∧
    read8 (BitVec.ofNat 16 (0xE000 + o)) s = read8 (BitVec.ofNat 16 (0xC000 + o)) s ∧
    ∀ w : Word, 0xDE00 ≤ w.toNat → w.toNat < 0xE000 →
      read8 (BitVec.ofNat 16 (0xE000 + o)) (write8 w v s) = read8 (BitVec.ofNat 16 (0xE000 + o)) s

/-- A write to 0x0000-0x7FFF stores nothing: it changes the four bank fields at most, as the controller and the sub-range say (R140 to
R149). -/
def Obligations.BankControlWrites : Prop :=
  ∀ (s : State) (a : Word) (v : Byte), a.toNat < 0x8000 →
    let n := a.toNat
    let c := s.cart
    let en := decide (v.toNat % 16 = 10)
    ∃ d : Cart, write8 a v s = { s with cart := d } ∧
      d = { c with ramEn := d.ramEn, bankLo := d.bankLo, bankHi := d.bankHi, bankMode := d.bankMode } ∧
      (c.kind = .romOnly → d = c) ∧
      (c.kind = .mbc1 →
        d.ramEn = (if n < 0x2000 then en else c.ramEn) ∧
        d.bankLo.toNat =
          (if 0x2000 ≤ n ∧ n < 0x4000 then (if v.toNat % 32 = 0 then 1 else v.toNat % 32) else c.bankLo.toNat) ∧
        d.bankHi.toNat = (if 0x4000 ≤ n ∧ n < 0x6000 then v.toNat % 4 else c.bankHi.toNat) ∧
        d.bankMode = (if 0x6000 ≤ n then decide (v.toNat % 2 = 1) else c.bankMode)) ∧
      (c.kind = .mbc3 →
        d.ramEn = (if n < 0x2000 then en else c.ramEn) ∧
        d.bankLo.toNat =
          (if 0x2000 ≤ n ∧ n < 0x4000 then (if v.toNat % 128 = 0 then 1 else v.toNat % 128) else c.bankLo.toNat) ∧
        d.bankHi.toNat = (if 0x4000 ≤ n ∧ n < 0x6000 then v.toNat % 16 else c.bankHi.toNat) ∧
        d.bankMode = c.bankMode)

/-- What 0x0000-0x7FFF reads as: the boot overlay below 0x100 while it is mapped (R77), else bank 0 below 0x4000 and the selected bank above
(R137), by the bank the controller selects (R136). Where there is no boot image BOOT_OFF is 1 (10_state.md R34, the boot latch of
`State.Inv`), and the second clause applies; no image with BOOT_OFF = 0 is a state no run reaches, of which it says nothing (log 19). -/
def Obligations.RomWindowReads : Prop :=
  ∀ (s : State) (a : Word), a.toNat < 0x8000 →
    let c := s.cart
    let lo := c.bankLo.toNat
    let bank :=
      match c.kind with
      | .romOnly => 1
      | .mbc1 => (if c.bankMode then lo % 32 else c.bankHi.toNat % 4 * 32 + lo % 32) % c.romBanks
      | .mbc3 => lo % c.romBanks
    (∀ image, s.boot = some image → s.bootOff = false → a.toNat < 0x100 → read8 a s = image.read a.toNat) ∧
    (s.bootOff = true ∨ 0x100 ≤ a.toNat → a.toNat < 0x4000 → read8 a s = c.rom.read a.toNat) ∧
    (0x4000 ≤ a.toNat → read8 a s = c.rom.read (bank * 0x4000 + a.toNat - 0x4000))

/-- Cartridge RAM answers only when it is enabled, present, and no Mbc3 clock register is selected, from the bank the controller selects,
modulo its size; a write lands under exactly those conditions (R135, R136, R138, R139). -/
def Obligations.CartridgeRamGate : Prop :=
  ∀ (s : State) (a : Word) (v : Byte), 0xA000 ≤ a.toNat → a.toNat < 0xC000 →
    let c := s.cart
    let bank :=
      match c.kind with
      | .romOnly => 0
      | .mbc1 => if c.bankMode then c.bankHi.toNat % 4 else 0
      | .mbc3 => c.bankHi.toNat
    let k := (bank * 0x2000 + (a.toNat - 0xA000)) % c.xramSize
    let shut := c.ramEn = false ∨ c.xramSize = 0 ∨ (c.kind = .mbc3 ∧ bank > 3)
    (shut → read8 a s = 0xFF ∧ write8 a v s = s) ∧
    (¬shut → read8 a s = c.xram.read k ∧ write8 a v s = { s with cart := { c with xram := c.xram.write k v } } ∧
      read8 a (write8 a v s) = v)

/-- The reads that give the stub 0xFF, each in its condition (R79, R83, R84, R99, R104), the bits no component drives, which read 1, and
what every register reads as in terms of the state (R90, R405, R406, R441 to R444, R452, R453, R473, R475, R476). -/
def Obligations.StubReads : Prop :=
  ∀ (s : State) (a : Word),
    (stubRead a s = true → read8 a s = 0xFF) ∧
    read8 0xFF00 s &&& 0xC0 = 0xC0 ∧ read8 0xFF02 s &&& 0x7E = 0x7E ∧ read8 0xFF07 s &&& 0xF8 = 0xF8 ∧
    read8 0xFF0F s &&& 0xE0 = 0xE0 ∧ read8 0xFF41 s &&& 0x80 = 0x80 ∧ read8 0xFFFF s &&& 0xE0 = 0xE0 ∧
    (read8 0xFF00 s).toNat / 16 = 12 + s.joypad.sel.toNat ∧
    read8 0xFF01 s = s.sb ∧ read8 0xFF02 s = s.sc ||| 0x7E ∧
    (read8 0xFF04 s).toNat = s.timer.div.toNat / 256 ∧ read8 0xFF05 s = s.timer.tima ∧ read8 0xFF06 s = s.timer.tma ∧
    (read8 0xFF07 s).toNat = 0xF8 + 4 * s.timer.tacEn.toNat + s.timer.tacSel.toNat ∧
    (read8 0xFF0F s).toNat = 0xE0 + s.ifl.toNat ∧ (read8 0xFFFF s).toNat = 0xE0 + s.ie.toNat ∧
    (read8 0xFF41 s).toNat = 0x80 + 8 * s.ppu.statEn.toNat + (if s.ppu.ly = s.ppu.lyc then 4 else 0) +
      (match s.ppu.mode with | .hblank => 0 | .vblank => 1 | .oamSearch => 2 | .transfer => 3) ∧
    read8 0xFF40 s = s.ppu.lcdc ∧ read8 0xFF42 s = s.ppu.scy ∧ read8 0xFF43 s = s.ppu.scx ∧ read8 0xFF44 s = s.ppu.ly ∧
    read8 0xFF45 s = s.ppu.lyc ∧ read8 0xFF46 s = s.ppu.dmaReg ∧ read8 0xFF47 s = s.ppu.bgp ∧ read8 0xFF48 s = s.ppu.obp0 ∧
    read8 0xFF49 s = s.ppu.obp1 ∧ read8 0xFF4A s = s.ppu.wy ∧ read8 0xFF4B s = s.ppu.wx

/-- What a store to a device register leaves it reading as: the stored bits, the others as the register drives them (R405, R406, R444,
R452, R453, R473, R476); and all the store changes: the named field, and nothing else. LY ignores a store (R475); a TAC write does not tick
TIMA; 0xFF50 sets BOOT_OFF exactly when the byte is not 0 and never clears it (R100). DIV, LCDC and the DMA trigger, which do more, have
DividerStore, DisplaySwitch and OamDma. -/
def Obligations.RegisterStores : Prop :=
  ∀ (s : State) (v : Byte),
    read8 0xFF0F (write8 0xFF0F v s) = v ||| 0xE0 ∧
    read8 0xFFFF (write8 0xFFFF v s) = v ||| 0xE0 ∧
    read8 0xFF07 (write8 0xFF07 v s) = v ||| 0xF8 ∧ read8 0xFF05 (write8 0xFF07 v s) = read8 0xFF05 s ∧
    read8 0xFF02 (write8 0xFF02 v s) = v ||| 0x7E ∧
    read8 0xFF00 (write8 0xFF00 v s) &&& 0xF0 = (v ||| 0xC0) &&& 0xF0 ∧
    read8 0xFF41 (write8 0xFF41 v s) = (v &&& 0x78) ||| (read8 0xFF41 s &&& 0x87) ∧
    read8 0xFF45 (write8 0xFF45 v s) = v ∧
    read8 0xFF40 (write8 0xFF40 v s) = v ∧
    read8 0xFF04 (write8 0xFF04 v s) = 0 ∧
    read8 0xFF46 (write8 0xFF46 v s) = v ∧
    write8 0xFF0F v s = { s with ifl := BitVec.ofNat 5 (v.toNat % 32) } ∧
    write8 0xFFFF v s = { s with ie := BitVec.ofNat 5 (v.toNat % 32) } ∧
    write8 0xFF00 v s = { s with joypad := { s.joypad with sel := BitVec.ofNat 2 (v.toNat / 16 % 4) } } ∧
    write8 0xFF01 v s = { s with sb := v } ∧
    write8 0xFF02 v s = { s with sc := v } ∧
    write8 0xFF05 v s = { s with timer := { s.timer with tima := v } } ∧
    write8 0xFF06 v s = { s with timer := { s.timer with tma := v } } ∧
    write8 0xFF07 v s =
      { s with timer := { s.timer with tacEn := decide (v.toNat / 4 % 2 = 1), tacSel := BitVec.ofNat 2 (v.toNat % 4) } } ∧
    write8 0xFF41 v s = { s with ppu := { s.ppu with statEn := BitVec.ofNat 4 (v.toNat / 8 % 16) } } ∧
    write8 0xFF42 v s = { s with ppu := { s.ppu with scy := v } } ∧
    write8 0xFF43 v s = { s with ppu := { s.ppu with scx := v } } ∧
    write8 0xFF44 v s = s ∧
    write8 0xFF45 v s = { s with ppu := { s.ppu with lyc := v } } ∧
    write8 0xFF47 v s = { s with ppu := { s.ppu with bgp := v } } ∧
    write8 0xFF48 v s = { s with ppu := { s.ppu with obp0 := v } } ∧
    write8 0xFF49 v s = { s with ppu := { s.ppu with obp1 := v } } ∧
    write8 0xFF4A v s = { s with ppu := { s.ppu with wy := v } } ∧
    write8 0xFF4B v s = { s with ppu := { s.ppu with wx := v } } ∧
    write8 0xFF50 v s = { s with bootOff := if v = 0 then s.bootOff else true }

/-- OAM DMA: a store of `v` to 0xFF46 copies, inside the store and whatever MODE is, the 160 bytes that the bus reads from `v` * 256 on
into sprite memory, flag bytes without their low nibble, and changes nothing else but DMA_REG (R101, R102, R471). -/
def Obligations.OamDma : Prop :=
  ∀ (s : State) (v : Byte),
    let s1 := { s with ppu := { s.ppu with dmaReg := v } }
    ∃ t, write8 0xFF46 v s = t ∧ t = { s1 with ppu := { s1.ppu with oam := t.ppu.oam } } ∧
      ∀ k, k < 160 →
        let b := read8 (BitVec.ofNat 16 (v.toNat * 256 + k)) s1
        oamReadByte t.ppu k = if k % 4 = 3 then b &&& 0xF0 else b

/-- Two arrays in canonical form that read the same at every offset are equal data. -/
def Obligations.CanonicalMemory : Prop :=
  ∀ m m' : Memory, m.wf = true → m'.wf = true → (∀ a, m.read a = m'.read a) → m = m'

/-! Interrupts and the step. -/

/-- Interrupt resolution (R413, R414, R412): with nothing pending and enabled, nothing; with IME clear, only HALTED is released and IF
stays; with IME set, the lowest numbered source is acknowledged, PC is pushed, IME cleared, and PC becomes 0x40 + 8 i. -/
def Obligations.InterruptResolution : Prop :=
  ∀ s : State,
    let pending := s.ifl &&& s.ie
    (pending = 0 → resolve s = (s, 0)) ∧
    (pending ≠ 0 → s.cpu.ime = false → resolve s = ({ s with cpu := { s.cpu with halted := false } }, 0)) ∧
    (∀ i : Nat, i < 5 → pending.getLsbD i = true → (∀ j, j < i → pending.getLsbD j = false) → s.cpu.ime = true →
      let s1 := { s with ifl := s.ifl &&& ~~~(1#5 <<< i) }
      resolve s =
        ({ write8 (s.cpu.sp - 2) (loByte s.cpu.pc) (write8 (s.cpu.sp - 1) (hiByte s.cpu.pc) s1) with
            cpu := { s.cpu with sp := s.cpu.sp - 2, pc := BitVec.ofNat 16 (0x40 + 8 * i), ime := false, halted := false } },
          s.params.intCycles))

/-- A step runs the decoded instruction (R420, R421): after resolution, a machine that is not halted applies a pending interrupt enable,
and runs the well-formed instruction that the bytes at PC decode to, with PC past those bytes; a halted one passes `HALT_CYCLES`. The
devices follow. -/
def Obligations.StepRunsDecodedInstruction : Prop :=
  ∀ (s : State), s.fault = none →
    let r := (resolve s).1
    let ci := (resolve s).2
    let u := if r.cpu.imePending then { r with cpu := { r.cpu with ime := true, imePending := false } } else r
    let pc := r.cpu.pc
    (r.cpu.halted = true → step s = .next (finish ci { r with cycles := r.params.haltCycles })) ∧
    (r.cpu.halted = false → ∃ i rest, decode [read8 pc r, read8 (pc + 1) r, read8 (pc + 2) r] = .ok (i, rest) ∧ i.wf = true ∧
      step s =
        match exec i { u with cpu := { u.cpu with pc := pc + BitVec.ofNat 16 i.length } } with
        | .next t => .next (finish ci t)
        | .fault f => .fault f
        | .refused f => .refused f)

/-- The end of a step (R420, R400): without a fault the timer and then the pixel unit receive the step's total cycles, each may set its
bits of IF, and nothing else changes; with a fault nothing moves. -/
def Obligations.DevicesFollow : Prop :=
  ∀ (ci : Nat) (t : State),
    (t.fault = none →
      let total := ci + t.cycles
      let tm := timerStep total t.timer
      let px := ppuStep total t.ppu
      finish ci t = { t with
        timer := tm.1, ppu := px.1, ifl := (t.ifl ||| (if tm.2 then 0b00100 else 0)) ||| px.2, cycles := total }) ∧
    (t.fault ≠ none → finish ci t = t)

/-- A machine whose FAULT is present takes no further step (R400); one that runs into an illegal opcode records it and neither the timer
nor the pixel unit moves in that step. -/
def Obligations.FaultIsTerminal : Prop :=
  ∀ s : State,
    (∀ r, s.fault = some r → step s = .fault (.terminal r)) ∧
    (s.fault = none → s.ifl &&& s.ie = 0 → s.cpu.halted = false →
      read8 s.cpu.pc s ∈ [0xD3, 0xDB, 0xDD, 0xE3, 0xE4, 0xEB, 0xEC, 0xED, 0xF4, 0xFC, 0xFD] →
      ∃ t, step s = .next t ∧
        t.fault = some { kind := .illegalOpcode, address := s.cpu.pc, value := read8 s.cpu.pc s } ∧ t.cycles = 0 ∧
        t.cpu.pc = s.cpu.pc + 1 ∧ t.cpu.sp = s.cpu.sp ∧ (∀ q, t.reg q = s.reg q) ∧
        t.timer = s.timer ∧ t.ppu = s.ppu ∧ SameMemory s t ∧ step t = .fault (.terminal
          { kind := .illegalOpcode, address := s.cpu.pc, value := read8 s.cpu.pc s }))

/-- The one-instruction delay of EI (R375): run with IME clear, EI leaves IME clear, and the step after it services no interrupt, whatever
is pending, and applies the enable before its instruction. -/
def Obligations.EnableDelay : Prop :=
  ∀ s : State, s.fault = none → s.cpu.halted = false → s.cpu.ime = false → s.cpu.imePending = false → read8 s.cpu.pc s = 0xFB →
    ∃ t, step s = .next t ∧ t.cpu = { s.cpu with pc := s.cpu.pc + 1, imePending := true } ∧
      (resolve t).2 = 0 ∧ (resolve t).1.cpu = t.cpu ∧
      ∃ i rest, decode [read8 t.cpu.pc t, read8 (t.cpu.pc + 1) t, read8 (t.cpu.pc + 2) t] = .ok (i, rest) ∧
        cpuStep t = exec i { t with
          cpu := { t.cpu with ime := true, imePending := false, pc := t.cpu.pc + BitVec.ofNat 16 i.length } }

/-- A parked machine (R431 c): for any number of steps it stays parked, the processor and every memory the processor writes are frozen,
and only the timer, the pixel unit, IF and FRAME move. -/
def Obligations.ParkedForever : Prop :=
  ∀ (s : State) (k : Nat), s.Parked →
    ∃ t, Host.Core.run core k s = .next t ∧ t.Parked ∧
      t = { s with
        ifl := t.ifl, timer := t.timer, cycles := t.cycles
        ppu := { s.ppu with
          mode := t.ppu.mode, modeClock := t.ppu.modeClock, ly := t.ppu.ly, statLine := t.ppu.statLine, frame := t.ppu.frame } }

/-- Under the default parameters a step that does not fault returns 4, 8, 12, 16, 20 or 24 cycles, or that plus 20 (R420). -/
def Obligations.StepCosts : Prop :=
  ∀ s t : State, s.params = Params.default → step s = .next t → t.fault = none →
    ∃ c ∈ [4, 8, 12, 16, 20, 24], t.cycles = c ∨ t.cycles = c + 20

/-- What no step of any instruction changes: the cartridge image, its type and sizes, the boot image, the parameters, the host's joypad
lines; and the boot latch never falls (R40, R100, R130). -/
def Obligations.StepKeepsConfiguration : Prop :=
  ∀ s t : State, step s = .next t →
    t.params = s.params ∧ t.boot = s.boot ∧ t.cart.rom = s.cart.rom ∧ t.cart.kind = s.cart.kind ∧
      t.cart.romBanks = s.cart.romBanks ∧ t.cart.xramSize = s.cart.xramSize ∧ t.joypad.lines = s.joypad.lines ∧
      (s.bootOff = true → t.bootOff = true)

/-! The timer. -/

/-- `timer_step` in closed form (R444 to R446): the divider gains n; an enabled TIMA gains the number of multiples of the period the
divider crosses; TIMA overflows exactly when that carries it past 255, and from then on it counts from TMA with the period 256 - TMA;
nothing else changes. -/
def Obligations.TimerClosedForm : Prop :=
  ∀ (n : Nat) (t : Timer),
    let period := 2 * 2 ^ selBit t.tacSel
    let ticks := if t.tacEn then (t.div.toNat + n) / period - t.div.toNat / period else 0
    let total := t.tima.toNat + ticks
    let tima := if total < 256 then total else t.tma.toNat + (total - 256) % (256 - t.tma.toNat)
    (timerStep n t).1 = { t with div := t.div + BitVec.ofNat 16 n, tima := BitVec.ofNat 8 tima } ∧
    ((timerStep n t).2 = true ↔ total ≥ 256) ∧
    period = (match t.tacSel.toNat with | 0 => 1024 | 1 => 16 | 2 => 64 | _ => 256)

/-- A store to DIV clears the whole divider, and ticks TIMA when the timer is enabled and the selected bit was 1; an overflow of that tick
reloads TIMA from TMA and sets IF bit 2 (R441, R446). -/
def Obligations.DividerStore : Prop :=
  ∀ (s : State) (v : Byte),
    let bit := match s.timer.tacSel.toNat with | 0 => 9 | 1 => 3 | 2 => 5 | _ => 7
    let tick := s.timer.tacEn && s.timer.div.getLsbD bit
    let wraps := tick && decide (s.timer.tima = 0xFF)
    write8 0xFF04 v s = { s with
      timer := { s.timer with
        div := 0
        tima := if wraps then s.timer.tma else if tick then s.timer.tima + 1 else s.timer.tima }
      ifl := if wraps then s.ifl ||| 0b00100 else s.ifl }

/-! The pixel unit. -/

/-- The scanline state machine is a counter modulo 70224 (R480, R481, R484): from a legal position with the display on, n cycles move the
position by n, lead to a legal position, touch only MODE, MODE_CLOCK, LY and FRAME, and pass v-blank entry, at position 65664, exactly
when the v-blank flag is raised (R483). -/
def Obligations.ScanlineCounter : Prop :=
  ∀ (n : Nat) (p : Ppu), p.Inv → p.lcdc.getLsbD 7 = true →
    let r := ppuAdvance n p
    framePosition r.1 = (framePosition p + n) % 70224 ∧ r.1.Inv ∧
      r.1 = { p with mode := r.1.mode, modeClock := r.1.modeClock, ly := r.1.ly, frame := r.1.frame } ∧
      (r.2 = true ↔ ∃ k, framePosition p < k ∧ k ≤ framePosition p + n ∧ k % 70224 = 65664)

/-- The status line (R486): after every step of the pixel unit the latch equals the condition, IF bit 1 is raised exactly on a rise of it,
and with the display off the line is 0 and nothing advances (R482). -/
def Obligations.StatusLine : Prop :=
  ∀ (n : Nat) (p : Ppu),
    let r := ppuStep n p
    let q := r.1
    let cond := p.lcdc.getLsbD 7 = true ∧
      ((q.mode = .hblank ∧ p.statEn.getLsbD 0 = true) ∨ (q.mode = .vblank ∧ p.statEn.getLsbD 1 = true) ∨
        (q.mode = .oamSearch ∧ p.statEn.getLsbD 2 = true) ∨ (q.ly = p.lyc ∧ p.statEn.getLsbD 3 = true))
    (q.statLine = true ↔ cond) ∧
    (r.2.getLsbD 1 = true ↔ cond ∧ p.statLine = false) ∧
    (p.lcdc.getLsbD 7 = false → q = { p with statLine := false } ∧ r.2 = 0)

/-- Switching the display (R472, R482): a store to LCDC that clears bit 7 stops the unit at h-blank, line 0; one that sets it starts a
fresh frame; any other store changes LCDC alone. FRAME stays. -/
def Obligations.DisplaySwitch : Prop :=
  ∀ (s : State) (v : Byte),
    let p := s.ppu
    let on := p.lcdc.getLsbD 7
    let on' := v.getLsbD 7
    write8 0xFF40 v s = { s with
      ppu := if on = on' then { p with lcdc := v }
        else { p with lcdc := v, mode := if on' then .oamSearch else .hblank, modeClock := 0, ly := 0 } }

/-- Rendering a line (R490 to R492, R495, R497): one row of 160 shades, no other row and no other state changes. In column x, background and
window leave the window's or the background's tile pixel through BGP, or shade 0 with both disabled, and the column is opaque where that
pixel is not 0; with sprites off the row shows that shade, with sprites on what `SpritePriority` says of the column. -/
def Obligations.RenderedLine : Prop :=
  ∀ (p : Ppu), p.Inv → p.ly.toNat < 144 →
    ∃ row : Row, renderScanline p = { p with frame := (renderScanline p).frame } ∧
      frameRow p.ly.toNat (renderScanline p).frame = some row ∧ row.length = 160 ∧
      (∀ y, y ≠ p.ly.toNat → frameRow y (renderScanline p).frame = frameRow y p.frame) ∧
      (∀ x, x < 160 → row[x]? = some (renderPixel p (paintOrder p (selectSprites p)) x)) ∧
      ∀ x, x < 160 →
        let inWindow := p.lcdc.getLsbD 5 = true ∧ p.wy.toNat ≤ p.ly.toNat ∧ p.wx.toNat ≤ x + 7
        let px := if inWindow then x + 7 - p.wx.toNat else (x + p.scx.toNat) % 256
        let py := if inWindow then p.ly.toNat - p.wy.toNat else (p.ly.toNat + p.scy.toNat) % 256
        let map := if p.lcdc.getLsbD (if inWindow then 6 else 3) then 0x1C00 else 0x1800
        let id := (p.vram.read (map + 32 * (py / 8) + px / 8)).toNat
        let tile := if p.lcdc.getLsbD 4 ∨ 128 ≤ id then 16 * id else 0x1000 + 16 * id
        let plane (k : Nat) := ((p.vram.read (tile + 2 * (py % 8) + k)).getLsbD (7 - px % 8)).toNat
        let raw := 2 * plane 1 + plane 0
        layerShade p x = (if p.lcdc.getLsbD 0 then BitVec.ofNat 2 (p.bgp.toNat / 4 ^ raw) else 0) ∧
        (bgOpaque p x = true ↔ p.lcdc.getLsbD 0 = true ∧ raw ≠ 0) ∧
        (p.lcdc.getLsbD 1 = false → row[x]? = some (layerShade p x))

/-- Sprite priority (R493, R494, R496): the selected records are the first ten in table order that cover the line; a column shows the
sprite that, among those with a visible pixel there, has the smallest X and then the lowest index; with none, what background and window
left. A pixel is visible when it is not transparent and not hidden behind the background. The pixel of a covering sprite is that of its
tile at row LY + 16 - Y and column x + 8 - X, each mirrored by its flip bit, the two tiles of a 16-row sprite being an even one and the
next; it is shown through the sprite's palette. -/
def Obligations.SpritePriority : Prop :=
  ∀ (p : Ppu) (x : Nat),
    let sel := selectSprites p
    let h := if p.lcdc.getLsbD 2 then 16 else 8
    let covers (n : Nat) : Prop :=
      (oamRecord p n).y.toNat ≤ p.ly.toNat + 16 ∧ p.ly.toNat + 16 < (oamRecord p n).y.toNat + h
    let pixel (o : OamRecord) : Nat :=
      let r := if o.yflip then h - 1 - (p.ly.toNat + 16 - o.y.toNat) else p.ly.toNat + 16 - o.y.toNat
      let c := if o.xflip then 7 - (x + 8 - o.x.toNat) else x + 8 - o.x.toNat
      let tile := if h = 16 then 2 * (o.tile.toNat / 2) + r / 8 else o.tile.toNat
      let plane (k : Nat) := ((p.vram.read (16 * tile + 2 * (r % 8) + k)).getLsbD (7 - c)).toNat
      2 * plane 1 + plane 0
    let visible (n : Nat) (raw : BitVec 2) :=
      spriteRaw p n x = some raw ∧ raw ≠ 0 ∧ ¬((oamRecord p n).behindBg = true ∧ bgOpaque p x = true)
    let above (a b : Nat) := (oamRecord p a).x.toNat < (oamRecord p b).x.toNat ∨ ((oamRecord p a).x = (oamRecord p b).x ∧ a < b)
    let shown := renderPixel p (paintOrder p sel) x
    sel.length ≤ 10 ∧
    (∀ n, n ∈ sel ↔ p.lcdc.getLsbD 1 = true ∧ n < 40 ∧ covers n ∧
      ((List.range n).filter (spriteCovers p)).length < 10) ∧
    (∀ n, spriteCovers p n = true ↔ covers n) ∧ sel.Pairwise (· < ·) ∧
    (∀ n, covers n → spriteRaw p n x =
      if (oamRecord p n).x.toNat ≤ x + 8 ∧ x + 8 < (oamRecord p n).x.toNat + 8 then some (BitVec.ofNat 2 (pixel (oamRecord p n)))
      else none) ∧
    (∀ (palette : Byte) (raw : BitVec 2), shade palette raw = BitVec.ofNat 2 (palette.toNat / 4 ^ raw.toNat)) ∧
    ((∀ n ∈ sel, ∀ raw, ¬visible n raw) → shown = layerShade p x) ∧
    (∀ n ∈ sel, ∀ raw, visible n raw → (∀ m ∈ sel, ∀ raw', visible m raw' → m ≠ n → above n m) →
      shown = shade (if (oamRecord p n).pal then p.obp1 else p.obp0) raw)

/-! Joypad and reset. -/

/-- P1 reads as the selected groups of pressed lines, 0 for pressed; the host's action replaces the lines and raises IF bit 4 exactly when
an output line falls; nothing else changes (R452). -/
def Obligations.Joypad : Prop :=
  ∀ (s : State) (lines : Byte),
    let out (ls : Byte) (k : Nat) : Bool :=
      !((!s.joypad.sel.getLsbD 0 && ls.getLsbD k) || (!s.joypad.sel.getLsbD 1 && ls.getLsbD (k + 4)))
    (∀ k, k < 4 → (read8 0xFF00 s).getLsbD k = out s.joypad.lines k) ∧
    ∃ ifl, hostSetJoypad lines s = { s with joypad := { s.joypad with lines := lines }, ifl := ifl } ∧
      ifl = if ∃ k, k < 4 ∧ out s.joypad.lines k = true ∧ out lines k = false then s.ifl ||| 0b10000 else s.ifl

/-- Reset without a boot image (R43, R44, R532): for every well-formed image and whatever the memories hold, the machine of profile P-CART.
The contents of the memories are the argument `RAM_INIT`; a type without cartridge RAM has none whatever the size code says (R131, R133). -/
def Obligations.ResetWithoutBootImage : Prop :=
  ∀ (args : ResetArgs) (kind : CartType) (size : Nat),
    let t := args.cart.bytes.read 0x147
    let banks := 2 * 2 ^ (args.cart.bytes.read 0x148).toNat
    args.boot = none → cartTypeOf t = some kind → (args.cart.bytes.read 0x148).toNat ≤ 8 → args.cart.length = banks * 0x4000 →
    [0, 2048, 8192, 32768, 131072, 65536][(args.cart.bytes.read 0x149).toNat]? = some size →
    ∃ s, resetWith args = .next s ∧
      s.cpu = { a := 0x01, b := 0x00, c := 0x13, d := 0x00, e := 0xD8, h := 0x01, l := 0x4D
                f := { z := true, n := false, h := true, c := true }
                sp := 0xFFFE, pc := 0x0100, ime := false, imePending := false, halted := false } ∧
      s.ifl = 0b00001 ∧ s.ie = 0 ∧ s.fault = none ∧ s.boot = none ∧ s.bootOff = true ∧
      s.timer = { div := 0xABCC, tima := 0, tma := 0, tacEn := false, tacSel := 0 } ∧
      s.ppu = { mode := .oamSearch, modeClock := 0, ly := 0, lcdc := 0x91, statEn := 0, scy := 0, scx := 0, wy := 0, wx := 0
                lyc := 0, bgp := 0xFC, obp0 := 0xFF, obp1 := 0xFF, dmaReg := 0xFF, statLine := false
                vram := args.ram.vram, oam := args.ram.oam, frame := args.ram.frame } ∧
      s.joypad = { sel := 0b11, lines := args.lines } ∧ s.sb = 0 ∧ s.sc = 0 ∧ s.params = args.params ∧
      s.wram = args.ram.wram ∧ s.hram = args.ram.hram ∧ s.snd = args.ram.snd ∧
      s.cart = { kind := kind, romBanks := banks, xramSize := if t ∈ [0x02, 0x03, 0x10, 0x12, 0x13] then size else 0
                 ramEn := false, bankLo := 1, bankHi := 0, bankMode := false, rom := args.cart.bytes, xram := args.ram.xram }

/-- Reset with a boot image (R42, R44, R532): profile P-BOOT, in the overlay at 0x0000, the display off. -/
def Obligations.ResetWithBootImage : Prop :=
  ∀ (args : ResetArgs) (image : Image) (kind : CartType) (size : Nat),
    let t := args.cart.bytes.read 0x147
    let banks := 2 * 2 ^ (args.cart.bytes.read 0x148).toNat
    args.boot = some image → image.length = 256 → cartTypeOf t = some kind → (args.cart.bytes.read 0x148).toNat ≤ 8 →
    args.cart.length = banks * 0x4000 →
    [0, 2048, 8192, 32768, 131072, 65536][(args.cart.bytes.read 0x149).toNat]? = some size →
    ∃ s, resetWith args = .next s ∧
      s.cpu = { a := 0, b := 0, c := 0, d := 0, e := 0, h := 0, l := 0, f := { z := false, n := false, h := false, c := false }
                sp := 0, pc := 0, ime := false, imePending := false, halted := false } ∧
      s.ifl = 0 ∧ s.ie = 0 ∧ s.fault = none ∧ s.boot = some image.bytes ∧ s.bootOff = false ∧
      s.timer = { div := 0, tima := 0, tma := 0, tacEn := false, tacSel := 0 } ∧
      s.ppu = { mode := .hblank, modeClock := 0, ly := 0, lcdc := 0, statEn := 0, scy := 0, scx := 0, wy := 0, wx := 0, lyc := 0
                bgp := 0, obp0 := 0, obp1 := 0, dmaReg := 0, statLine := false
                vram := args.ram.vram, oam := args.ram.oam, frame := args.ram.frame } ∧
      s.joypad = { sel := 0b11, lines := args.lines } ∧ s.sb = 0 ∧ s.sc = 0 ∧ s.params = args.params ∧
      s.wram = args.ram.wram ∧ s.hram = args.ram.hram ∧ s.snd = args.ram.snd ∧
      s.cart = { kind := kind, romBanks := banks, xramSize := if t ∈ [0x02, 0x03, 0x10, 0x12, 0x13] then size else 0
                 ramEn := false, bankLo := 1, bankHi := 0, bankMode := false, rom := args.cart.bytes, xram := args.ram.xram } ∧
      ∀ n : Word, n.toNat < 0x100 → read8 n s = image.bytes.read n.toNat

/-- A cartridge type with no decode makes reset raise UnsupportedCartridge with the address 0x0147 and the type byte; exactly the nine type
codes of R131 have a decode, each the controller R131 gives it; and no step of a running machine records that fault, nor any but
IllegalOpcode (R403). -/
def Obligations.UnsupportedCartridge : Prop :=
  (∀ args : ResetArgs, (∀ image, args.boot = some image → image.length = 256) → 0x150 ≤ args.cart.length →
    let t := args.cart.bytes.read 0x147
    (cartTypeOf t = none ↔ t ∉ [0x00, 0x01, 0x02, 0x03, 0x0F, 0x10, 0x11, 0x12, 0x13]) ∧
    (cartTypeOf t = some .romOnly ↔ t = 0x00) ∧ (cartTypeOf t = some .mbc1 ↔ t ∈ [0x01, 0x02, 0x03]) ∧
    (cartTypeOf t = some .mbc3 ↔ t ∈ [0x0F, 0x10, 0x11, 0x12, 0x13]) ∧
    (t ∉ [0x00, 0x01, 0x02, 0x03, 0x0F, 0x10, 0x11, 0x12, 0x13] →
      resetWith args = .fault (.terminal { kind := .unsupportedCartridge, address := 0x0147, value := t }))) ∧
  ∀ s t : State, s.fault = none → step s = .next t → ∀ r, t.fault = some r → r.kind = .illegalOpcode

/-! The invariant. -/

/-- The state after reset satisfies the invariant of Safety.lean. -/
def Obligations.ResetSatisfiesInvariant : Prop := State.reset.Inv

/-- Every step keeps the invariant: every memory stays in canonical form within its size, the bank fields stay in their controller's range,
the pixel unit stays at a legal position of the frame with whole rows in FRAME, and no fault but an illegal opcode arises. -/
def Obligations.StepKeepsInvariant : Prop := ∀ s t : State, s.Inv → step s = .next t → t.Inv
end

