-- ==== Sys2Proof/Laws/Bits.lean ====
section
/-!
SUPPORT. Byte order in terms of numbers, and the flag register's packing.
-/

namespace Sys2Proof.Machine

theorem toNat_mkWord (h l : Byte) : (mkWord h l).toNat = h.toNat * 256 + l.toNat := by
  rw [mkWord, BitVec.toNat_append, ← Nat.shiftLeft_add_eq_or_of_lt l.isLt, Nat.shiftLeft_eq]

theorem toNat_hiByte (v : Word) : (hiByte v).toNat = v.toNat / 256 := by
  have := v.isLt
  simp only [hiByte, BitVec.extractLsb'_toNat, Nat.shiftRight_eq_div_pow]; omega

theorem toNat_loByte (v : Word) : (loByte v).toNat = v.toNat % 256 := by
  simp [loByte, BitVec.extractLsb'_toNat]

@[simp] theorem mkWord_hi_lo (v : Word) : mkWord (hiByte v) (loByte v) = v := by
  apply BitVec.eq_of_toNat_eq; rw [toNat_mkWord, toNat_hiByte, toNat_loByte]; omega

@[simp] theorem hiByte_mkWord (h l : Byte) : hiByte (mkWord h l) = h := by
  apply BitVec.eq_of_toNat_eq; rw [toNat_hiByte, toNat_mkWord]; have := l.isLt; omega

@[simp] theorem loByte_mkWord (h l : Byte) : loByte (mkWord h l) = l := by
  apply BitVec.eq_of_toNat_eq; rw [toNat_loByte, toNat_mkWord]; have := l.isLt; omega

theorem packF_unpackF (v : Byte) : packF (unpackF v) = v &&& 0xF0#8 := by revert v; decide

theorem unpackF_packF (f : Flags) : unpackF (packF f) = f := by
  obtain ⟨z, n, h, c⟩ := f; revert z n h c; decide

end Sys2Proof.Machine
end

