-- ==== Sys2Proof/Laws/Mem.lean ====
section
/-!
SUPPORT. Reading back what was written, and the canonical form: every write keeps it, and it makes equal contents equal data.
-/

namespace Sys2Proof.Machine

theorem Memory.read_filter_ne (m : Memory) {a b : Nat} (h : b ≠ a) :
    Memory.read (m.filter (fun cell => decide (cell.1 ≠ a))) b = Memory.read m b := by
  induction m with
  | nil => rfl
  | cons c m ih =>
    obtain ⟨k, v⟩ := c
    by_cases hk : k = a
    · subst hk
      simp only [ne_eq, decide_not, List.filter_cons, decide_true, Bool.not_true, Bool.false_eq_true, if_false] at ih ⊢
      rw [ih, Memory.read, if_neg (Ne.symm h)]
    · simp only [ne_eq, decide_not, List.filter_cons, hk, decide_false, Bool.not_false, if_true] at ih ⊢
      rw [Memory.read, Memory.read, ih]

theorem Memory.read_filter_self (m : Memory) (a : Nat) :
    Memory.read (m.filter (fun cell => decide (cell.1 ≠ a))) a = Memory.unlisted := by
  induction m with
  | nil => rfl
  | cons c m ih =>
    obtain ⟨k, v⟩ := c
    by_cases hk : k = a
    · simpa [List.filter_cons, hk] using ih
    · simp only [ne_eq, decide_not, List.filter_cons, hk, decide_false, Bool.not_false, if_true] at ih ⊢
      rw [Memory.read, if_neg hk, ih]

theorem Memory.read_insert (m : Memory) (a b : Nat) (v : Byte) (h : ∀ c ∈ m, c.1 ≠ a) :
    Memory.read (Memory.insert a v m) b = if b = a then v else Memory.read m b := by
  induction m with
  | nil => simp [Memory.insert, Memory.read, eq_comm]
  | cons c m ih =>
    obtain ⟨k, w⟩ := c
    have hk : k ≠ a := h (k, w) (by simp)
    have ih := ih (fun c hc => h c (by simp [hc]))
    simp only [Memory.insert]
    split
    · rw [Memory.read]
      by_cases hb : a = b
      · simp [hb]
      · rw [if_neg hb, if_neg (fun e => hb e.symm)]
    · rw [Memory.read, ih, Memory.read]
      by_cases hb : k = b
      · simp [hb, show b ≠ a from hb ▸ hk]
      · simp [hb]

/-- What a write leaves at every offset. -/
theorem Memory.read_write (m : Memory) (a b : Nat) (v : Byte) :
    (m.write a v).read b = if b = a then v else m.read b := by
  simp only [Memory.write]
  split
  · subst v
    split
    · subst b; exact read_filter_self m a
    · exact read_filter_ne m ‹_›
  · rw [read_insert _ _ _ _ (fun c hc => by simpa using (List.mem_filter.mp hc).2)]
    split
    · rfl
    · exact read_filter_ne m ‹_›

@[simp] theorem Memory.read_write_same (m : Memory) (a : Nat) (v : Byte) : (m.write a v).read a = v := by simp [read_write]

theorem Memory.read_write_other (m : Memory) {a b : Nat} (v : Byte) (h : b ≠ a) : (m.write a v).read b = m.read b := by
  simp [read_write, h]

/-- Strictly rising offsets, as a pairwise relation. -/
theorem Memory.rising_iff (m : Memory) : m.rising = true ↔ m.Pairwise (fun c d => c.1 < d.1) := by
  induction m with
  | nil => simp [Memory.rising]
  | cons c m ih =>
    cases m with
    | nil => simp [Memory.rising]
    | cons d m =>
      obtain ⟨j, x⟩ := c
      obtain ⟨k, w⟩ := d
      simp only [Memory.rising, Bool.and_eq_true, decide_eq_true_eq, ih, List.pairwise_cons (a := (j, x))]
      refine ⟨fun ⟨h, hp⟩ => ⟨fun e he => ?_, hp⟩, fun ⟨h, hp⟩ => ⟨h (k, w) (by simp), hp⟩⟩
      rcases List.mem_cons.mp he with rfl | he
      · exact h
      · exact Nat.lt_trans h ((List.pairwise_cons.mp hp).1 e he)

theorem Memory.mem_insert (m : Memory) (a : Nat) (v : Byte) (c : Host.Cell) : c ∈ Memory.insert a v m ↔ c = (a, v) ∨ c ∈ m := by
  induction m with
  | nil => simp [Memory.insert]
  | cons d m ih =>
    obtain ⟨k, w⟩ := d
    simp only [Memory.insert]
    split
    · simp
    · simp only [List.mem_cons, ih]; tauto

theorem Memory.insert_rising (m : Memory) (a : Nat) (v : Byte) (h : m.Pairwise (fun c d => c.1 < d.1)) (ha : ∀ c ∈ m, c.1 ≠ a) :
    (Memory.insert a v m).Pairwise (fun c d => c.1 < d.1) := by
  induction m with
  | nil => simp [Memory.insert]
  | cons d m ih =>
    obtain ⟨k, w⟩ := d
    obtain ⟨hd, hm⟩ := List.pairwise_cons.mp h
    have hk : k ≠ a := ha (k, w) (by simp)
    simp only [Memory.insert]
    split
    · rename_i hlt
      refine List.pairwise_cons.mpr ⟨fun c hc => ?_, h⟩
      rcases List.mem_cons.mp hc with rfl | hc
      · exact hlt
      · exact Nat.lt_trans hlt (hd c hc)
    · refine List.pairwise_cons.mpr ⟨fun c hc => ?_, ih hm (fun c hc => ha c (by simp [hc]))⟩
      rcases (mem_insert m a v c).mp hc with rfl | hc
      · simp only; omega
      · exact hd c hc

/-- A write keeps the canonical form. -/
theorem Memory.write_wf (m : Memory) (a : Nat) (v : Byte) (h : m.wf = true) : (m.write a v).wf = true := by
  simp only [Memory.wf, Bool.and_eq_true, rising_iff, List.all_eq_true, decide_eq_true_eq] at h ⊢
  obtain ⟨hp, hv⟩ := h
  have hf := hp.filter (fun cell => decide (cell.1 ≠ a))
  simp only [Memory.write]
  split
  · exact ⟨hf, fun c hc => hv c (List.mem_filter.mp hc).1⟩
  · refine ⟨insert_rising _ _ _ hf (fun c hc => by simpa using (List.mem_filter.mp hc).2), fun c hc => ?_⟩
    rcases (mem_insert _ _ _ _).mp hc with rfl | hc
    · assumption
    · exact hv c (List.mem_filter.mp hc).1

/-- A write below the size keeps every offset below it. -/
theorem Memory.write_within (m : Memory) {size a : Nat} (v : Byte) (ha : a < size) (h : m.within size = true) :
    (m.write a v).within size = true := by
  simp only [Memory.within, List.all_eq_true, decide_eq_true_eq] at h ⊢
  intro c hc
  simp only [Memory.write] at hc
  split at hc
  · exact h c (List.mem_filter.mp hc).1
  · rcases (mem_insert _ _ _ _).mp hc with rfl | hc
    · exact ha
    · exact h c (List.mem_filter.mp hc).1

theorem Memory.read_of_lt (m : Memory) (a : Nat) (h : ∀ c ∈ m, a < c.1) : m.read a = Memory.unlisted := by
  induction m with
  | nil => rfl
  | cons c m ih =>
    obtain ⟨k, v⟩ := c
    have hk : a < k := h (k, v) (by simp)
    rw [Memory.read, if_neg (by omega), ih (fun c hc => h c (by simp [hc]))]

end Sys2Proof.Machine
end

