-- ==== Sys2Proof/Laws/State.lean ====
section
/-!
SUPPORT. What each named update of the state changes and leaves: one lemma per field, so that no proof unfolds a record update. The bus
reads no processor register, so no such update changes a read.
-/

namespace Sys2Proof.Machine


/-! `setPc` -/

@[simp] theorem setPc_ifl (s : State) (v : Word) : (s.setPc v).ifl = s.ifl := rfl
@[simp] theorem setPc_ie (s : State) (v : Word) : (s.setPc v).ie = s.ie := rfl
@[simp] theorem setPc_fault (s : State) (v : Word) : (s.setPc v).fault = s.fault := rfl
@[simp] theorem setPc_boot (s : State) (v : Word) : (s.setPc v).boot = s.boot := rfl
@[simp] theorem setPc_bootOff (s : State) (v : Word) : (s.setPc v).bootOff = s.bootOff := rfl
@[simp] theorem setPc_cart (s : State) (v : Word) : (s.setPc v).cart = s.cart := rfl
@[simp] theorem setPc_ppu (s : State) (v : Word) : (s.setPc v).ppu = s.ppu := rfl
@[simp] theorem setPc_timer (s : State) (v : Word) : (s.setPc v).timer = s.timer := rfl
@[simp] theorem setPc_joypad (s : State) (v : Word) : (s.setPc v).joypad = s.joypad := rfl
@[simp] theorem setPc_sb (s : State) (v : Word) : (s.setPc v).sb = s.sb := rfl
@[simp] theorem setPc_sc (s : State) (v : Word) : (s.setPc v).sc = s.sc := rfl
@[simp] theorem setPc_wram (s : State) (v : Word) : (s.setPc v).wram = s.wram := rfl
@[simp] theorem setPc_hram (s : State) (v : Word) : (s.setPc v).hram = s.hram := rfl
@[simp] theorem setPc_snd (s : State) (v : Word) : (s.setPc v).snd = s.snd := rfl
@[simp] theorem setPc_params (s : State) (v : Word) : (s.setPc v).params = s.params := rfl
@[simp] theorem setPc_cycles (s : State) (v : Word) : (s.setPc v).cycles = s.cycles := rfl
@[simp] theorem setPc_a (s : State) (v : Word) : (s.setPc v).cpu.a = s.cpu.a := rfl
@[simp] theorem setPc_b (s : State) (v : Word) : (s.setPc v).cpu.b = s.cpu.b := rfl
@[simp] theorem setPc_c (s : State) (v : Word) : (s.setPc v).cpu.c = s.cpu.c := rfl
@[simp] theorem setPc_d (s : State) (v : Word) : (s.setPc v).cpu.d = s.cpu.d := rfl
@[simp] theorem setPc_e (s : State) (v : Word) : (s.setPc v).cpu.e = s.cpu.e := rfl
@[simp] theorem setPc_h (s : State) (v : Word) : (s.setPc v).cpu.h = s.cpu.h := rfl
@[simp] theorem setPc_l (s : State) (v : Word) : (s.setPc v).cpu.l = s.cpu.l := rfl
@[simp] theorem setPc_f (s : State) (v : Word) : (s.setPc v).cpu.f = s.cpu.f := rfl
@[simp] theorem setPc_sp (s : State) (v : Word) : (s.setPc v).cpu.sp = s.cpu.sp := rfl
@[simp] theorem setPc_pc (s : State) (v : Word) : (s.setPc v).cpu.pc = v := rfl
@[simp] theorem setPc_ime (s : State) (v : Word) : (s.setPc v).cpu.ime = s.cpu.ime := rfl
@[simp] theorem setPc_imePending (s : State) (v : Word) : (s.setPc v).cpu.imePending = s.cpu.imePending := rfl
@[simp] theorem setPc_halted (s : State) (v : Word) : (s.setPc v).cpu.halted = s.cpu.halted := rfl
@[simp] theorem setPc_reg (s : State) (v : Word) (q : Reg8) : (s.setPc v).reg q = s.reg q := by cases q <;> rfl

/-! `setSp` -/

@[simp] theorem setSp_ifl (s : State) (v : Word) : (s.setSp v).ifl = s.ifl := rfl
@[simp] theorem setSp_ie (s : State) (v : Word) : (s.setSp v).ie = s.ie := rfl
@[simp] theorem setSp_fault (s : State) (v : Word) : (s.setSp v).fault = s.fault := rfl
@[simp] theorem setSp_boot (s : State) (v : Word) : (s.setSp v).boot = s.boot := rfl
@[simp] theorem setSp_bootOff (s : State) (v : Word) : (s.setSp v).bootOff = s.bootOff := rfl
@[simp] theorem setSp_cart (s : State) (v : Word) : (s.setSp v).cart = s.cart := rfl
@[simp] theorem setSp_ppu (s : State) (v : Word) : (s.setSp v).ppu = s.ppu := rfl
@[simp] theorem setSp_timer (s : State) (v : Word) : (s.setSp v).timer = s.timer := rfl
@[simp] theorem setSp_joypad (s : State) (v : Word) : (s.setSp v).joypad = s.joypad := rfl
@[simp] theorem setSp_sb (s : State) (v : Word) : (s.setSp v).sb = s.sb := rfl
@[simp] theorem setSp_sc (s : State) (v : Word) : (s.setSp v).sc = s.sc := rfl
@[simp] theorem setSp_wram (s : State) (v : Word) : (s.setSp v).wram = s.wram := rfl
@[simp] theorem setSp_hram (s : State) (v : Word) : (s.setSp v).hram = s.hram := rfl
@[simp] theorem setSp_snd (s : State) (v : Word) : (s.setSp v).snd = s.snd := rfl
@[simp] theorem setSp_params (s : State) (v : Word) : (s.setSp v).params = s.params := rfl
@[simp] theorem setSp_cycles (s : State) (v : Word) : (s.setSp v).cycles = s.cycles := rfl
@[simp] theorem setSp_a (s : State) (v : Word) : (s.setSp v).cpu.a = s.cpu.a := rfl
@[simp] theorem setSp_b (s : State) (v : Word) : (s.setSp v).cpu.b = s.cpu.b := rfl
@[simp] theorem setSp_c (s : State) (v : Word) : (s.setSp v).cpu.c = s.cpu.c := rfl
@[simp] theorem setSp_d (s : State) (v : Word) : (s.setSp v).cpu.d = s.cpu.d := rfl
@[simp] theorem setSp_e (s : State) (v : Word) : (s.setSp v).cpu.e = s.cpu.e := rfl
@[simp] theorem setSp_h (s : State) (v : Word) : (s.setSp v).cpu.h = s.cpu.h := rfl
@[simp] theorem setSp_l (s : State) (v : Word) : (s.setSp v).cpu.l = s.cpu.l := rfl
@[simp] theorem setSp_f (s : State) (v : Word) : (s.setSp v).cpu.f = s.cpu.f := rfl
@[simp] theorem setSp_sp (s : State) (v : Word) : (s.setSp v).cpu.sp = v := rfl
@[simp] theorem setSp_pc (s : State) (v : Word) : (s.setSp v).cpu.pc = s.cpu.pc := rfl
@[simp] theorem setSp_ime (s : State) (v : Word) : (s.setSp v).cpu.ime = s.cpu.ime := rfl
@[simp] theorem setSp_imePending (s : State) (v : Word) : (s.setSp v).cpu.imePending = s.cpu.imePending := rfl
@[simp] theorem setSp_halted (s : State) (v : Word) : (s.setSp v).cpu.halted = s.cpu.halted := rfl
@[simp] theorem setSp_reg (s : State) (v : Word) (q : Reg8) : (s.setSp v).reg q = s.reg q := by cases q <;> rfl

/-! `setFlags` -/

@[simp] theorem setFlags_ifl (s : State) (x : Flags) : (s.setFlags x).ifl = s.ifl := rfl
@[simp] theorem setFlags_ie (s : State) (x : Flags) : (s.setFlags x).ie = s.ie := rfl
@[simp] theorem setFlags_fault (s : State) (x : Flags) : (s.setFlags x).fault = s.fault := rfl
@[simp] theorem setFlags_boot (s : State) (x : Flags) : (s.setFlags x).boot = s.boot := rfl
@[simp] theorem setFlags_bootOff (s : State) (x : Flags) : (s.setFlags x).bootOff = s.bootOff := rfl
@[simp] theorem setFlags_cart (s : State) (x : Flags) : (s.setFlags x).cart = s.cart := rfl
@[simp] theorem setFlags_ppu (s : State) (x : Flags) : (s.setFlags x).ppu = s.ppu := rfl
@[simp] theorem setFlags_timer (s : State) (x : Flags) : (s.setFlags x).timer = s.timer := rfl
@[simp] theorem setFlags_joypad (s : State) (x : Flags) : (s.setFlags x).joypad = s.joypad := rfl
@[simp] theorem setFlags_sb (s : State) (x : Flags) : (s.setFlags x).sb = s.sb := rfl
@[simp] theorem setFlags_sc (s : State) (x : Flags) : (s.setFlags x).sc = s.sc := rfl
@[simp] theorem setFlags_wram (s : State) (x : Flags) : (s.setFlags x).wram = s.wram := rfl
@[simp] theorem setFlags_hram (s : State) (x : Flags) : (s.setFlags x).hram = s.hram := rfl
@[simp] theorem setFlags_snd (s : State) (x : Flags) : (s.setFlags x).snd = s.snd := rfl
@[simp] theorem setFlags_params (s : State) (x : Flags) : (s.setFlags x).params = s.params := rfl
@[simp] theorem setFlags_cycles (s : State) (x : Flags) : (s.setFlags x).cycles = s.cycles := rfl
@[simp] theorem setFlags_a (s : State) (x : Flags) : (s.setFlags x).cpu.a = s.cpu.a := rfl
@[simp] theorem setFlags_b (s : State) (x : Flags) : (s.setFlags x).cpu.b = s.cpu.b := rfl
@[simp] theorem setFlags_c (s : State) (x : Flags) : (s.setFlags x).cpu.c = s.cpu.c := rfl
@[simp] theorem setFlags_d (s : State) (x : Flags) : (s.setFlags x).cpu.d = s.cpu.d := rfl
@[simp] theorem setFlags_e (s : State) (x : Flags) : (s.setFlags x).cpu.e = s.cpu.e := rfl
@[simp] theorem setFlags_h (s : State) (x : Flags) : (s.setFlags x).cpu.h = s.cpu.h := rfl
@[simp] theorem setFlags_l (s : State) (x : Flags) : (s.setFlags x).cpu.l = s.cpu.l := rfl
@[simp] theorem setFlags_f (s : State) (x : Flags) : (s.setFlags x).cpu.f = x := rfl
@[simp] theorem setFlags_sp (s : State) (x : Flags) : (s.setFlags x).cpu.sp = s.cpu.sp := rfl
@[simp] theorem setFlags_pc (s : State) (x : Flags) : (s.setFlags x).cpu.pc = s.cpu.pc := rfl
@[simp] theorem setFlags_ime (s : State) (x : Flags) : (s.setFlags x).cpu.ime = s.cpu.ime := rfl
@[simp] theorem setFlags_imePending (s : State) (x : Flags) : (s.setFlags x).cpu.imePending = s.cpu.imePending := rfl
@[simp] theorem setFlags_halted (s : State) (x : Flags) : (s.setFlags x).cpu.halted = s.cpu.halted := rfl
@[simp] theorem setFlags_reg (s : State) (x : Flags) (q : Reg8) : (s.setFlags x).reg q = s.reg q := by cases q <;> rfl

/-! `setReg` -/

@[simp] theorem setReg_ifl (s : State) (r : Reg8) (v : Byte) : (s.setReg r v).ifl = s.ifl := by cases r <;> rfl
@[simp] theorem setReg_ie (s : State) (r : Reg8) (v : Byte) : (s.setReg r v).ie = s.ie := by cases r <;> rfl
@[simp] theorem setReg_fault (s : State) (r : Reg8) (v : Byte) : (s.setReg r v).fault = s.fault := by cases r <;> rfl
@[simp] theorem setReg_boot (s : State) (r : Reg8) (v : Byte) : (s.setReg r v).boot = s.boot := by cases r <;> rfl
@[simp] theorem setReg_bootOff (s : State) (r : Reg8) (v : Byte) : (s.setReg r v).bootOff = s.bootOff := by cases r <;> rfl
@[simp] theorem setReg_cart (s : State) (r : Reg8) (v : Byte) : (s.setReg r v).cart = s.cart := by cases r <;> rfl
@[simp] theorem setReg_ppu (s : State) (r : Reg8) (v : Byte) : (s.setReg r v).ppu = s.ppu := by cases r <;> rfl
@[simp] theorem setReg_timer (s : State) (r : Reg8) (v : Byte) : (s.setReg r v).timer = s.timer := by cases r <;> rfl
@[simp] theorem setReg_joypad (s : State) (r : Reg8) (v : Byte) : (s.setReg r v).joypad = s.joypad := by cases r <;> rfl
@[simp] theorem setReg_sb (s : State) (r : Reg8) (v : Byte) : (s.setReg r v).sb = s.sb := by cases r <;> rfl
@[simp] theorem setReg_sc (s : State) (r : Reg8) (v : Byte) : (s.setReg r v).sc = s.sc := by cases r <;> rfl
@[simp] theorem setReg_wram (s : State) (r : Reg8) (v : Byte) : (s.setReg r v).wram = s.wram := by cases r <;> rfl
@[simp] theorem setReg_hram (s : State) (r : Reg8) (v : Byte) : (s.setReg r v).hram = s.hram := by cases r <;> rfl
@[simp] theorem setReg_snd (s : State) (r : Reg8) (v : Byte) : (s.setReg r v).snd = s.snd := by cases r <;> rfl
@[simp] theorem setReg_params (s : State) (r : Reg8) (v : Byte) : (s.setReg r v).params = s.params := by cases r <;> rfl
@[simp] theorem setReg_cycles (s : State) (r : Reg8) (v : Byte) : (s.setReg r v).cycles = s.cycles := by cases r <;> rfl
@[simp] theorem setReg_f (s : State) (r : Reg8) (v : Byte) : (s.setReg r v).cpu.f = s.cpu.f := by cases r <;> rfl
@[simp] theorem setReg_sp (s : State) (r : Reg8) (v : Byte) : (s.setReg r v).cpu.sp = s.cpu.sp := by cases r <;> rfl
@[simp] theorem setReg_pc (s : State) (r : Reg8) (v : Byte) : (s.setReg r v).cpu.pc = s.cpu.pc := by cases r <;> rfl
@[simp] theorem setReg_ime (s : State) (r : Reg8) (v : Byte) : (s.setReg r v).cpu.ime = s.cpu.ime := by cases r <;> rfl
@[simp] theorem setReg_imePending (s : State) (r : Reg8) (v : Byte) : (s.setReg r v).cpu.imePending = s.cpu.imePending := by cases r <;> rfl
@[simp] theorem setReg_halted (s : State) (r : Reg8) (v : Byte) : (s.setReg r v).cpu.halted = s.cpu.halted := by cases r <;> rfl

/-! `setPair` -/

@[simp] theorem setPair_ifl (s : State) (p : Pair) (v : Word) : (s.setPair p v).ifl = s.ifl := by cases p <;> rfl
@[simp] theorem setPair_ie (s : State) (p : Pair) (v : Word) : (s.setPair p v).ie = s.ie := by cases p <;> rfl
@[simp] theorem setPair_fault (s : State) (p : Pair) (v : Word) : (s.setPair p v).fault = s.fault := by cases p <;> rfl
@[simp] theorem setPair_boot (s : State) (p : Pair) (v : Word) : (s.setPair p v).boot = s.boot := by cases p <;> rfl
@[simp] theorem setPair_bootOff (s : State) (p : Pair) (v : Word) : (s.setPair p v).bootOff = s.bootOff := by cases p <;> rfl
@[simp] theorem setPair_cart (s : State) (p : Pair) (v : Word) : (s.setPair p v).cart = s.cart := by cases p <;> rfl
@[simp] theorem setPair_ppu (s : State) (p : Pair) (v : Word) : (s.setPair p v).ppu = s.ppu := by cases p <;> rfl
@[simp] theorem setPair_timer (s : State) (p : Pair) (v : Word) : (s.setPair p v).timer = s.timer := by cases p <;> rfl
@[simp] theorem setPair_joypad (s : State) (p : Pair) (v : Word) : (s.setPair p v).joypad = s.joypad := by cases p <;> rfl
@[simp] theorem setPair_sb (s : State) (p : Pair) (v : Word) : (s.setPair p v).sb = s.sb := by cases p <;> rfl
@[simp] theorem setPair_sc (s : State) (p : Pair) (v : Word) : (s.setPair p v).sc = s.sc := by cases p <;> rfl
@[simp] theorem setPair_wram (s : State) (p : Pair) (v : Word) : (s.setPair p v).wram = s.wram := by cases p <;> rfl
@[simp] theorem setPair_hram (s : State) (p : Pair) (v : Word) : (s.setPair p v).hram = s.hram := by cases p <;> rfl
@[simp] theorem setPair_snd (s : State) (p : Pair) (v : Word) : (s.setPair p v).snd = s.snd := by cases p <;> rfl
@[simp] theorem setPair_params (s : State) (p : Pair) (v : Word) : (s.setPair p v).params = s.params := by cases p <;> rfl
@[simp] theorem setPair_cycles (s : State) (p : Pair) (v : Word) : (s.setPair p v).cycles = s.cycles := by cases p <;> rfl
@[simp] theorem setPair_a (s : State) (p : Pair) (v : Word) : (s.setPair p v).cpu.a = s.cpu.a := by cases p <;> rfl
@[simp] theorem setPair_f (s : State) (p : Pair) (v : Word) : (s.setPair p v).cpu.f = s.cpu.f := by cases p <;> rfl
@[simp] theorem setPair_pc (s : State) (p : Pair) (v : Word) : (s.setPair p v).cpu.pc = s.cpu.pc := by cases p <;> rfl
@[simp] theorem setPair_ime (s : State) (p : Pair) (v : Word) : (s.setPair p v).cpu.ime = s.cpu.ime := by cases p <;> rfl
@[simp] theorem setPair_imePending (s : State) (p : Pair) (v : Word) : (s.setPair p v).cpu.imePending = s.cpu.imePending := by cases p <;> rfl
@[simp] theorem setPair_halted (s : State) (p : Pair) (v : Word) : (s.setPair p v).cpu.halted = s.cpu.halted := by cases p <;> rfl

/-! `setStackPair` -/

@[simp] theorem setStackPair_ifl (s : State) (p : StackPair) (v : Word) : (s.setStackPair p v).ifl = s.ifl := by cases p <;> rfl
@[simp] theorem setStackPair_ie (s : State) (p : StackPair) (v : Word) : (s.setStackPair p v).ie = s.ie := by cases p <;> rfl
@[simp] theorem setStackPair_fault (s : State) (p : StackPair) (v : Word) : (s.setStackPair p v).fault = s.fault := by cases p <;> rfl
@[simp] theorem setStackPair_boot (s : State) (p : StackPair) (v : Word) : (s.setStackPair p v).boot = s.boot := by cases p <;> rfl
@[simp] theorem setStackPair_bootOff (s : State) (p : StackPair) (v : Word) : (s.setStackPair p v).bootOff = s.bootOff := by cases p <;> rfl
@[simp] theorem setStackPair_cart (s : State) (p : StackPair) (v : Word) : (s.setStackPair p v).cart = s.cart := by cases p <;> rfl
@[simp] theorem setStackPair_ppu (s : State) (p : StackPair) (v : Word) : (s.setStackPair p v).ppu = s.ppu := by cases p <;> rfl
@[simp] theorem setStackPair_timer (s : State) (p : StackPair) (v : Word) : (s.setStackPair p v).timer = s.timer := by cases p <;> rfl
@[simp] theorem setStackPair_joypad (s : State) (p : StackPair) (v : Word) : (s.setStackPair p v).joypad = s.joypad := by cases p <;> rfl
@[simp] theorem setStackPair_sb (s : State) (p : StackPair) (v : Word) : (s.setStackPair p v).sb = s.sb := by cases p <;> rfl
@[simp] theorem setStackPair_sc (s : State) (p : StackPair) (v : Word) : (s.setStackPair p v).sc = s.sc := by cases p <;> rfl
@[simp] theorem setStackPair_wram (s : State) (p : StackPair) (v : Word) : (s.setStackPair p v).wram = s.wram := by cases p <;> rfl
@[simp] theorem setStackPair_hram (s : State) (p : StackPair) (v : Word) : (s.setStackPair p v).hram = s.hram := by cases p <;> rfl
@[simp] theorem setStackPair_snd (s : State) (p : StackPair) (v : Word) : (s.setStackPair p v).snd = s.snd := by cases p <;> rfl
@[simp] theorem setStackPair_params (s : State) (p : StackPair) (v : Word) : (s.setStackPair p v).params = s.params := by cases p <;> rfl
@[simp] theorem setStackPair_cycles (s : State) (p : StackPair) (v : Word) : (s.setStackPair p v).cycles = s.cycles := by cases p <;> rfl
@[simp] theorem setStackPair_sp (s : State) (p : StackPair) (v : Word) : (s.setStackPair p v).cpu.sp = s.cpu.sp := by cases p <;> rfl
@[simp] theorem setStackPair_pc (s : State) (p : StackPair) (v : Word) : (s.setStackPair p v).cpu.pc = s.cpu.pc := by cases p <;> rfl
@[simp] theorem setStackPair_ime (s : State) (p : StackPair) (v : Word) : (s.setStackPair p v).cpu.ime = s.cpu.ime := by cases p <;> rfl
@[simp] theorem setStackPair_imePending (s : State) (p : StackPair) (v : Word) : (s.setStackPair p v).cpu.imePending = s.cpu.imePending := by cases p <;> rfl
@[simp] theorem setStackPair_halted (s : State) (p : StackPair) (v : Word) : (s.setStackPair p v).cpu.halted = s.cpu.halted := by cases p <;> rfl

/-! The register file. -/

@[simp] theorem setReg_reg_same (s : State) (r : Reg8) (v : Byte) : (s.setReg r v).reg r = v := by cases r <;> rfl

theorem setReg_reg_other (s : State) (r q : Reg8) (v : Byte) (h : q ≠ r) : (s.setReg r v).reg q = s.reg q := by
  cases r <;> cases q <;> first | rfl | exact absurd rfl h

theorem setReg_reg (s : State) (r q : Reg8) (v : Byte) : (s.setReg r v).reg q = if q = r then v else s.reg q := by
  split
  · subst q; simp
  · exact setReg_reg_other s r q v ‹_›

@[simp] theorem setPair_pair (s : State) (p : Pair) (v : Word) : (s.setPair p v).pair p = v := by
  cases p <;> simp [State.setPair, State.pair]

theorem setPair_pair_other (s : State) (p q : Pair) (v : Word) (h : q ≠ p) : (s.setPair p v).pair q = s.pair q := by
  cases p <;> cases q <;> first | rfl | exact absurd rfl h

@[simp] theorem setPair_regA (s : State) (p : Pair) (v : Word) : (s.setPair p v).reg .A = s.reg .A := by cases p <;> rfl

/-- A stack pair written is a stack pair read back, but for AF's low nibble (10_state.md R21, R22). -/
theorem setStackPair_stackPair (s : State) (p : StackPair) (v : Word) :
    (s.setStackPair p v).stackPair p = if p = .AF then mkWord (hiByte v) (loByte v &&& 0xF0#8) else v := by
  cases p
  case AF => exact congrArg (mkWord (hiByte v)) (packF_unpackF (loByte v))
  all_goals simp [State.setStackPair, State.stackPair]

/-! Bus reads ignore the processor and `cycles`. -/

@[simp] theorem read8_with_cpu (x : Word) (s : State) (c : Cpu) : read8 x { s with cpu := c } = read8 x s := rfl

@[simp] theorem read8_with_cycles (x : Word) (s : State) (k : Nat) : read8 x { s with cycles := k } = read8 x s := rfl

@[simp] theorem read8_with_fault (x : Word) (s : State) (r : Option FaultRecord) : read8 x { s with fault := r } = read8 x s := rfl

@[simp] theorem setPc_read8 (s : State) (v : Word) (i : Word) : read8 i (s.setPc v) = read8 i s := rfl
@[simp] theorem setSp_read8 (s : State) (v : Word) (i : Word) : read8 i (s.setSp v) = read8 i s := rfl
@[simp] theorem setFlags_read8 (s : State) (x : Flags) (i : Word) : read8 i (s.setFlags x) = read8 i s := rfl
@[simp] theorem setReg_read8 (s : State) (r : Reg8) (v : Byte) (i : Word) : read8 i (s.setReg r v) = read8 i s := by cases r <;> rfl
@[simp] theorem setPair_read8 (s : State) (p : Pair) (v : Word) (i : Word) : read8 i (s.setPair p v) = read8 i s := by cases p <;> rfl
@[simp] theorem setStackPair_read8 (s : State) (p : StackPair) (v : Word) (i : Word) : read8 i (s.setStackPair p v) = read8 i s := by cases p <;> rfl

end Sys2Proof.Machine
end

