-- ==== Sys2Proof/Laws/Bus.lean ====
section
/-!
SUPPORT. What the bus operations can do: the region of an address, the effect of OAM DMA, and everything a bus write leaves alone.
-/

namespace Sys2Proof.Machine

/-! The regions (20_memory.md R76). -/

theorem regionOf_rom {a : Word} : regionOf a = .rom ↔ a.toNat < 0x8000 := by
  have := a.isLt; simp only [regionOf]; repeat' split
  all_goals (simp; omega)

theorem regionOf_vram {a : Word} : regionOf a = .vram ↔ 0x8000 ≤ a.toNat ∧ a.toNat < 0xA000 := by
  have := a.isLt; simp only [regionOf]; repeat' split
  all_goals (simp; omega)

theorem regionOf_xram {a : Word} : regionOf a = .xram ↔ 0xA000 ≤ a.toNat ∧ a.toNat < 0xC000 := by
  have := a.isLt; simp only [regionOf]; repeat' split
  all_goals (simp; omega)

theorem regionOf_wram {a : Word} : regionOf a = .wram ↔ 0xC000 ≤ a.toNat ∧ a.toNat < 0xE000 := by
  have := a.isLt; simp only [regionOf]; repeat' split
  all_goals (simp; omega)

theorem regionOf_echo {a : Word} : regionOf a = .echo ↔ 0xE000 ≤ a.toNat ∧ a.toNat < 0xFE00 := by
  have := a.isLt; simp only [regionOf]; repeat' split
  all_goals (simp; omega)

theorem regionOf_oam {a : Word} : regionOf a = .oam ↔ 0xFE00 ≤ a.toNat ∧ a.toNat < 0xFEA0 := by
  have := a.isLt; simp only [regionOf]; repeat' split
  all_goals (simp; omega)

theorem regionOf_unused {a : Word} : regionOf a = .unused ↔ 0xFEA0 ≤ a.toNat ∧ a.toNat < 0xFF00 := by
  have := a.isLt; simp only [regionOf]; repeat' split
  all_goals (simp; omega)

theorem regionOf_io {a : Word} : regionOf a = .io ↔ 0xFF00 ≤ a.toNat ∧ a.toNat < 0xFF80 := by
  have := a.isLt; simp only [regionOf]; repeat' split
  all_goals (simp; omega)

theorem regionOf_hram {a : Word} : regionOf a = .hram ↔ 0xFF80 ≤ a.toNat ∧ a.toNat < 0xFFFF := by
  have := a.isLt; simp only [regionOf]; repeat' split
  all_goals (simp; omega)

theorem regionOf_ie {a : Word} : regionOf a = .ie ↔ a.toNat = 0xFFFF := by
  have := a.isLt; simp only [regionOf]; repeat' split
  all_goals (simp; omega)

/-! OAM DMA writes sprite records and nothing else (20_memory.md R101, R102). -/

theorem oamWriteByte_effect (k : Nat) (v : Byte) (p : Ppu) : ∃ oam, oamWriteByte k v p = { p with oam := oam } := by
  simp only [oamWriteByte]
  split
  · exact ⟨_, rfl⟩
  · exact ⟨p.oam, rfl⟩

theorem dmaCopy_effect (base : Word) (n : Nat) (s : State) :
    ∃ oam, dmaCopy base n s = { s with ppu := { s.ppu with oam := oam } } := by
  induction n with
  | zero => exact ⟨s.ppu.oam, rfl⟩
  | succ n ih =>
    obtain ⟨oam, h⟩ := ih
    obtain ⟨oam', h'⟩ := oamWriteByte_effect n (read8 (base + BitVec.ofNat 16 n) (dmaCopy base n s)) (dmaCopy base n s).ppu
    refine ⟨oam', ?_⟩
    simp only [dmaCopy]
    rw [h', h]

theorem dmaWrite_effect (v : Byte) (s : State) :
    ∃ oam, dmaWrite v s = { s with ppu := { s.ppu with dmaReg := v, oam := oam } } := by
  obtain ⟨oam, h⟩ := dmaCopy_effect (v ++ 0#8) 160 { s with ppu := { s.ppu with dmaReg := v } }
  exact ⟨oam, by rw [dmaWrite, h]⟩

theorem timaTick_effect (t : Timer) : ∃ tima, (timaTick t).1 = { t with tima := tima } := by
  simp only [timaTick]
  split <;> exact ⟨_, rfl⟩

theorem divWrite_effect (t : Timer) : ∃ tima, (divWrite t).1 = { t with div := 0, tima := tima } := by
  simp only [divWrite]
  split
  · obtain ⟨x, h⟩ := timaTick_effect { t with div := 0 }
    exact ⟨x, h⟩
  · exact ⟨t.tima, rfl⟩

/-- What every bus write, and every sequence of them, leaves of the machine's other state (20_memory.md R71). -/
structure BusFrame (s t : State) : Prop where
  cpu : t.cpu = s.cpu
  fault : t.fault = s.fault
  boot : t.boot = s.boot
  params : t.params = s.params
  cycles : t.cycles = s.cycles
  lines : t.joypad.lines = s.joypad.lines
  kind : t.cart.kind = s.cart.kind
  romBanks : t.cart.romBanks = s.cart.romBanks
  xramSize : t.cart.xramSize = s.cart.xramSize
  rom : t.cart.rom = s.cart.rom
  frame : t.ppu.frame = s.ppu.frame
  statLine : t.ppu.statLine = s.ppu.statLine
  bootOff : s.bootOff = true → t.bootOff = true

theorem BusFrame.refl (s : State) : BusFrame s s :=
  ⟨rfl, rfl, rfl, rfl, rfl, rfl, rfl, rfl, rfl, rfl, rfl, rfl, id⟩

theorem bankControl_effect (c : Cart) (a : Nat) (v : Byte) :
    ∃ en lo hi mode, bankControl c a v = { c with ramEn := en, bankLo := lo, bankHi := hi, bankMode := mode } := by
  simp only [bankControl]
  repeat' split
  all_goals exact ⟨_, _, _, _, rfl⟩

theorem xramWrite_effect (c : Cart) (a : Nat) (v : Byte) : ∃ m, xramWrite c a v = { c with xram := m } := by
  simp only [xramWrite]
  split <;> exact ⟨_, rfl⟩

theorem lcdcWrite_effect (p : Ppu) (v : Byte) :
    ∃ mode clock ly, lcdcWrite p v = { p with lcdc := v, mode := mode, modeClock := clock, ly := ly } := by
  simp only [lcdcWrite]
  split <;> exact ⟨_, _, _, rfl⟩

theorem ioWrite_frame (a : Nat) (v : Byte) (s : State) : BusFrame s (ioWrite a v s) := by
  simp only [ioWrite]
  split
  · exact ⟨rfl, rfl, rfl, rfl, rfl, rfl, rfl, rfl, rfl, rfl, rfl, rfl, id⟩
  split
  case h_9 =>
    obtain ⟨m, c, l, h⟩ := lcdcWrite_effect s.ppu v
    refine ⟨rfl, rfl, rfl, rfl, rfl, rfl, rfl, rfl, rfl, rfl, ?_, ?_, id⟩ <;> simp only [h]
  case h_14 =>
    obtain ⟨oam, h⟩ := dmaWrite_effect v s
    rw [h]
    exact ⟨rfl, rfl, rfl, rfl, rfl, rfl, rfl, rfl, rfl, rfl, rfl, rfl, id⟩
  all_goals first
    | exact ⟨rfl, rfl, rfl, rfl, rfl, rfl, rfl, rfl, rfl, rfl, rfl, rfl, id⟩
    | exact ⟨rfl, rfl, rfl, rfl, rfl, rfl, rfl, rfl, rfl, rfl, rfl, rfl, fun h => by simp [h]⟩

/-- Everything a bus write leaves alone. -/
theorem write8_frame (a : Word) (v : Byte) (s : State) : BusFrame s (write8 a v s) := by
  simp only [write8]
  split
  case h_1 =>
    obtain ⟨_, _, _, _, h⟩ := bankControl_effect s.cart a.toNat v
    refine ⟨rfl, rfl, rfl, rfl, rfl, rfl, ?_, ?_, ?_, ?_, rfl, rfl, id⟩ <;> simp only [h]
  case h_2 => split <;> exact ⟨rfl, rfl, rfl, rfl, rfl, rfl, rfl, rfl, rfl, rfl, rfl, rfl, id⟩
  case h_3 =>
    obtain ⟨_, h⟩ := xramWrite_effect s.cart a.toNat v
    refine ⟨rfl, rfl, rfl, rfl, rfl, rfl, ?_, ?_, ?_, ?_, rfl, rfl, id⟩ <;> simp only [h]
  case h_6 =>
    split
    · obtain ⟨_, h⟩ := oamWriteByte_effect (a.toNat - 0xFE00) v s.ppu
      rw [h]
      exact ⟨rfl, rfl, rfl, rfl, rfl, rfl, rfl, rfl, rfl, rfl, rfl, rfl, id⟩
    · exact BusFrame.refl s
  case h_8 => exact ioWrite_frame _ _ _
  all_goals exact ⟨rfl, rfl, rfl, rfl, rfl, rfl, rfl, rfl, rfl, rfl, rfl, rfl, id⟩

@[simp] theorem write8_cpu (a : Word) (v : Byte) (s : State) : (write8 a v s).cpu = s.cpu := (write8_frame a v s).cpu
@[simp] theorem write8_fault (a : Word) (v : Byte) (s : State) : (write8 a v s).fault = s.fault := (write8_frame a v s).fault
@[simp] theorem write8_boot (a : Word) (v : Byte) (s : State) : (write8 a v s).boot = s.boot := (write8_frame a v s).boot
@[simp] theorem write8_params (a : Word) (v : Byte) (s : State) : (write8 a v s).params = s.params := (write8_frame a v s).params
@[simp] theorem write8_cycles (a : Word) (v : Byte) (s : State) : (write8 a v s).cycles = s.cycles := (write8_frame a v s).cycles
@[simp] theorem write8_reg (a : Word) (v : Byte) (s : State) (r : Reg8) : (write8 a v s).reg r = s.reg r := by
  cases r <;> simp [State.reg]
@[simp] theorem write8_pair (a : Word) (v : Byte) (s : State) (p : Pair) : (write8 a v s).pair p = s.pair p := by
  cases p <;> simp [State.pair]

@[simp] theorem push16_sp (v : Word) (s : State) : (push16 v s).cpu.sp = s.cpu.sp - 2 := by
  simp only [push16, write8_cpu, setSp_sp]
  bv_omega

/-- A push changes no register but SP. -/
theorem push16_cpu (v : Word) (s : State) : (push16 v s).cpu = { s.cpu with sp := s.cpu.sp - 2 } := by
  have h : s.cpu.sp - 1 - 1 = s.cpu.sp - 2 := by bv_omega
  simp only [push16, write8_cpu, State.setSp, h]

/-! A bus write does not look at the processor or `cycles`. -/

theorem dmaCopy_with_cpu (base : Word) (n : Nat) (s : State) (c : Cpu) (k : Nat) :
    dmaCopy base n { s with cpu := c, cycles := k } = { dmaCopy base n s with cpu := c, cycles := k } := by
  induction n with
  | zero => rfl
  | succ n ih =>
    simp only [dmaCopy]
    rw [ih]
    rfl

theorem ioWrite_with_cpu (a : Nat) (v : Byte) (s : State) (c : Cpu) (k : Nat) :
    ioWrite a v { s with cpu := c, cycles := k } = { ioWrite a v s with cpu := c, cycles := k } := by
  simp only [ioWrite]
  split
  · rfl
  split
  case h_14 => exact dmaCopy_with_cpu (v ++ 0#8) 160 { s with ppu := { s.ppu with dmaReg := v } } c k
  all_goals rfl

theorem write8_with_cpu (a : Word) (v : Byte) (s : State) (c : Cpu) (k : Nat) :
    write8 a v { s with cpu := c, cycles := k } = { write8 a v s with cpu := c, cycles := k } := by
  simp only [write8]
  split
  case h_8 => exact ioWrite_with_cpu _ _ _ _ _
  case h_2 => split <;> rfl
  case h_6 => split <;> rfl
  all_goals rfl

@[simp] theorem setSp_setSp (s : State) (x y : Word) : (s.setSp x).setSp y = s.setSp y := rfl

theorem write8_setSp (a : Word) (v : Byte) (s : State) (x : Word) : write8 a v (s.setSp x) = (write8 a v s).setSp x := by
  have h := write8_with_cpu a v s { s.cpu with sp := x } s.cycles
  simp only [State.setSp, write8_cpu]
  rw [show (write8 a v s).cycles = s.cycles from write8_cycles a v s] at *
  exact h

/-- A push: two bus writes, high byte first, and SP (45_control.md R360). -/
theorem push16_eq (v : Word) (s : State) :
    push16 v s = (write8 (s.cpu.sp - 2) (loByte v) (write8 (s.cpu.sp - 1) (hiByte v) s)).setSp (s.cpu.sp - 2) := by
  have h : s.cpu.sp - 1 - 1 = s.cpu.sp - 2 := by bv_omega
  simp only [push16, write8_setSp, setSp_sp, setSp_setSp, h]

end Sys2Proof.Machine
end

