-- ==== Sys2Proof/Laws/Exec.lean ====
section
/-!
SUPPORT. `exec` on each family of instructions is the family's shared operation: what a proof rewrites with instead of unfolding `exec`,
and the case split over the families, which turns a claim about the 512 constructors into one claim per family.
-/

namespace Sys2Proof.Machine


@[simp] theorem exec_ldRegReg (d : Reg8) (r : Reg8) (s : State) : exec (Instr.ldRegReg d r) s = loadRegReg d r s := by
  cases d <;> cases r <;> rfl

@[simp] theorem exec_ldRegN (d : Reg8) (n : Byte) (s : State) : exec (Instr.ldRegN d n) s = loadRegN d n s := by
  cases d <;> rfl

@[simp] theorem exec_ldRegAtHL (d : Reg8) (s : State) : exec (Instr.ldRegAtHL d) s = loadRegAtHL d s := by
  cases d <;> rfl

@[simp] theorem exec_ldAtHLReg (r : Reg8) (s : State) : exec (Instr.ldAtHLReg r) s = storeAtHL (s.reg r) 8 s := by
  cases r <;> rfl

@[simp] theorem exec_ldPairNN (p : Pair) (nn : Word) (s : State) : exec (Instr.ldPairNN p nn) s = loadPairNN p nn s := by
  cases p <;> rfl

@[simp] theorem exec_push (q : StackPair) (s : State) : exec (Instr.push q) s = pushPair q s := by
  cases q <;> rfl

@[simp] theorem exec_pop (q : StackPair) (s : State) : exec (Instr.pop q) s = popPair q s := by
  cases q <;> rfl

@[simp] theorem exec_aluReg (op : AluOp) (r : Reg8) (s : State) : exec (Instr.aluReg op r) s = aluReg op r s := by
  cases op <;> cases r <;> rfl

@[simp] theorem exec_aluAtHL (op : AluOp) (s : State) : exec (Instr.aluAtHL op) s = aluAtHL op s := by
  cases op <;> rfl

@[simp] theorem exec_aluN (op : AluOp) (n : Byte) (s : State) : exec (Instr.aluN op n) s = aluN op n s := by
  cases op <;> rfl

@[simp] theorem exec_incReg (r : Reg8) (s : State) : exec (Instr.incReg r) s = incReg r s := by
  cases r <;> rfl

@[simp] theorem exec_decReg (r : Reg8) (s : State) : exec (Instr.decReg r) s = decReg r s := by
  cases r <;> rfl

@[simp] theorem exec_addHL (p : Pair) (s : State) : exec (Instr.addHL p) s = addHl p s := by
  cases p <;> rfl

@[simp] theorem exec_incPair (p : Pair) (s : State) : exec (Instr.incPair p) s = incPair p s := by
  cases p <;> rfl

@[simp] theorem exec_decPair (p : Pair) (s : State) : exec (Instr.decPair p) s = decPair p s := by
  cases p <;> rfl

@[simp] theorem exec_rotReg (ro : RotOp) (r : Reg8) (s : State) : exec (Instr.rotReg ro r) s = rotReg ro r s := by
  cases ro <;> cases r <;> rfl

@[simp] theorem exec_rotAtHL (ro : RotOp) (s : State) : exec (Instr.rotAtHL ro) s = rotAtHL ro s := by
  cases ro <;> rfl

@[simp] theorem exec_bitReg (b : Fin 8) (r : Reg8) (s : State) : exec (Instr.bitReg b r) s = bitTestReg b r s := by
  fin_cases b <;> cases r <;> rfl

@[simp] theorem exec_bitAtHL (b : Fin 8) (s : State) : exec (Instr.bitAtHL b) s = bitTestAtHL b s := by
  fin_cases b <;> rfl

@[simp] theorem exec_resReg (b : Fin 8) (r : Reg8) (s : State) : exec (Instr.resReg b r) s = bitResetReg b r s := by
  fin_cases b <;> cases r <;> rfl

@[simp] theorem exec_resAtHL (b : Fin 8) (s : State) : exec (Instr.resAtHL b) s = bitResetAtHL b s := by
  fin_cases b <;> rfl

@[simp] theorem exec_setReg (b : Fin 8) (r : Reg8) (s : State) : exec (Instr.setReg b r) s = bitSetReg b r s := by
  fin_cases b <;> cases r <;> rfl

@[simp] theorem exec_setAtHL (b : Fin 8) (s : State) : exec (Instr.setAtHL b) s = bitSetAtHL b s := by
  fin_cases b <;> rfl

@[simp] theorem exec_jpCond (c : Cond) (nn : Word) (s : State) : exec (Instr.jpCond c nn) s = jumpIf c nn s := by
  cases c <;> rfl

@[simp] theorem exec_jrCond (c : Cond) (e : Byte) (s : State) : exec (Instr.jrCond c e) s = jumpRelativeIf c e s := by
  cases c <;> rfl

@[simp] theorem exec_callCond (c : Cond) (nn : Word) (s : State) : exec (Instr.callCond c nn) s = callIf c nn s := by
  cases c <;> rfl

@[simp] theorem exec_retCond (c : Cond) (s : State) : exec (Instr.retCond c) s = returnIf c s := by
  cases c <;> rfl

@[simp] theorem exec_rst (b : Fin 8) (s : State) : exec (Instr.rst b) s = restart b s := by
  fin_cases b <;> rfl

@[simp] theorem exec_illegal (ill : IllegalOp) (s : State) :
    exec (Instr.illegal ill) s = illegalOpcode ((encode (Instr.illegal ill)).headD 0) s := by
  cases ill <;> rfl

@[simp] theorem exec_nop (s : State) : exec .nop s = complete s := rfl

@[simp] theorem exec_ld_atBC_A (s : State) : exec .ld_atBC_A s = storeA (s.pair .BC) 8 s := rfl

@[simp] theorem exec_rlca (s : State) : exec .rlca s = rotA .rlc s := rfl

@[simp] theorem exec_ld_atnn_SP (nn : Word) (s : State) : exec (.ld_atnn_SP nn) s = storeSp nn s := rfl

@[simp] theorem exec_ld_A_atBC (s : State) : exec .ld_A_atBC s = loadA (s.pair .BC) 8 s := rfl

@[simp] theorem exec_rrca (s : State) : exec .rrca s = rotA .rrc s := rfl

@[simp] theorem exec_stop (pad : Byte) (s : State) : exec (.stop pad) s = stop s := rfl

@[simp] theorem exec_ld_atDE_A (s : State) : exec .ld_atDE_A s = storeA (s.pair .DE) 8 s := rfl

@[simp] theorem exec_rla (s : State) : exec .rla s = rotA .rl s := rfl

@[simp] theorem exec_jr_e (e : Byte) (s : State) : exec (.jr_e e) s = jumpRelative e 12 s := rfl

@[simp] theorem exec_ld_A_atDE (s : State) : exec .ld_A_atDE s = loadA (s.pair .DE) 8 s := rfl

@[simp] theorem exec_rra (s : State) : exec .rra s = rotA .rr s := rfl

@[simp] theorem exec_ld_atHLinc_A (s : State) : exec .ld_atHLinc_A s = storeAStep 1 s := rfl

@[simp] theorem exec_daa (s : State) : exec .daa s = decimalAdjust s := rfl

@[simp] theorem exec_ld_A_atHLinc (s : State) : exec .ld_A_atHLinc s = loadAStep 1 s := rfl

@[simp] theorem exec_cpl (s : State) : exec .cpl s = complementA s := rfl

@[simp] theorem exec_ld_atHLdec_A (s : State) : exec .ld_atHLdec_A s = storeAStep (-1) s := rfl

@[simp] theorem exec_inc_atHL (s : State) : exec .inc_atHL s = incAtHL s := rfl

@[simp] theorem exec_dec_atHL (s : State) : exec .dec_atHL s = decAtHL s := rfl

@[simp] theorem exec_ld_atHL_n (n : Byte) (s : State) : exec (.ld_atHL_n n) s = storeAtHL n 12 s := rfl

@[simp] theorem exec_scf (s : State) : exec .scf s = setCarry s := rfl

@[simp] theorem exec_ld_A_atHLdec (s : State) : exec .ld_A_atHLdec s = loadAStep (-1) s := rfl

@[simp] theorem exec_ccf (s : State) : exec .ccf s = complementCarry s := rfl

@[simp] theorem exec_halt (s : State) : exec .halt s = halt s := rfl

@[simp] theorem exec_jp_nn (nn : Word) (s : State) : exec (.jp_nn nn) s = jump nn 16 s := rfl

@[simp] theorem exec_ret (s : State) : exec .ret s = returnTo 16 s := rfl

@[simp] theorem exec_prefix_CB (op2 : Byte) (s : State) : exec (.prefix_CB op2) s = extended op2 s := rfl

@[simp] theorem exec_call_nn (nn : Word) (s : State) : exec (.call_nn nn) s = callTo nn 24 s := rfl

@[simp] theorem exec_reti (s : State) : exec .reti s = returnAndEnable s := rfl

@[simp] theorem exec_ldh_atn_A (n : Byte) (s : State) : exec (.ldh_atn_A n) s = storeA (highPage n) 12 s := rfl

@[simp] theorem exec_ldh_atC_A (s : State) : exec .ldh_atC_A s = storeA (highPage s.cpu.c) 8 s := rfl

@[simp] theorem exec_add_SP_e (e : Byte) (s : State) : exec (.add_SP_e e) s = addSpE e s := rfl

@[simp] theorem exec_jp_HL (s : State) : exec .jp_HL s = jump (s.pair .HL) 4 s := rfl

@[simp] theorem exec_ld_atnn_A (nn : Word) (s : State) : exec (.ld_atnn_A nn) s = storeA nn 16 s := rfl

@[simp] theorem exec_ldh_A_atn (n : Byte) (s : State) : exec (.ldh_A_atn n) s = loadA (highPage n) 12 s := rfl

@[simp] theorem exec_ldh_A_atC (s : State) : exec .ldh_A_atC s = loadA (highPage s.cpu.c) 8 s := rfl

@[simp] theorem exec_di (s : State) : exec .di s = disableInterrupts s := rfl

@[simp] theorem exec_ld_HL_SPe (e : Byte) (s : State) : exec (.ld_HL_SPe e) s = loadHlSpE e s := rfl

@[simp] theorem exec_ld_SP_HL (s : State) : exec .ld_SP_HL s = loadSpHl s := rfl

@[simp] theorem exec_ld_A_atnn (nn : Word) (s : State) : exec (.ld_A_atnn nn) s = loadA nn 16 s := rfl

@[simp] theorem exec_ei (s : State) : exec .ei s = enableInterrupts s := rfl

end Sys2Proof.Machine
end

