-- ==== Sys2Proof/Laws/Families.lean ====
section
/-!
SUPPORT. The case split over the families of instructions: a claim about all 512 constructors follows from one claim per table of
Syntax.lean and one per remaining instruction.
-/

namespace Sys2Proof

/-- Every instruction is an entry of a family's table or one of the single instructions. -/
theorem Instr.byFamily {P : Instr → Prop}
    (f_ldRegReg : ∀ (d : Reg8) (r : Reg8), P (Instr.ldRegReg d r))
    (f_ldRegN : ∀ (d : Reg8) (n : Byte), P (Instr.ldRegN d n))
    (f_ldRegAtHL : ∀ (d : Reg8), P (Instr.ldRegAtHL d))
    (f_ldAtHLReg : ∀ (r : Reg8), P (Instr.ldAtHLReg r))
    (f_ldPairNN : ∀ (p : Pair) (nn : Word), P (Instr.ldPairNN p nn))
    (f_push : ∀ (q : StackPair), P (Instr.push q))
    (f_pop : ∀ (q : StackPair), P (Instr.pop q))
    (f_aluReg : ∀ (op : AluOp) (r : Reg8), P (Instr.aluReg op r))
    (f_aluAtHL : ∀ (op : AluOp), P (Instr.aluAtHL op))
    (f_aluN : ∀ (op : AluOp) (n : Byte), P (Instr.aluN op n))
    (f_incReg : ∀ (r : Reg8), P (Instr.incReg r))
    (f_decReg : ∀ (r : Reg8), P (Instr.decReg r))
    (f_addHL : ∀ (p : Pair), P (Instr.addHL p))
    (f_incPair : ∀ (p : Pair), P (Instr.incPair p))
    (f_decPair : ∀ (p : Pair), P (Instr.decPair p))
    (f_rotReg : ∀ (ro : RotOp) (r : Reg8), P (Instr.rotReg ro r))
    (f_rotAtHL : ∀ (ro : RotOp), P (Instr.rotAtHL ro))
    (f_bitReg : ∀ (b : Fin 8) (r : Reg8), P (Instr.bitReg b r))
    (f_bitAtHL : ∀ (b : Fin 8), P (Instr.bitAtHL b))
    (f_resReg : ∀ (b : Fin 8) (r : Reg8), P (Instr.resReg b r))
    (f_resAtHL : ∀ (b : Fin 8), P (Instr.resAtHL b))
    (f_setReg : ∀ (b : Fin 8) (r : Reg8), P (Instr.setReg b r))
    (f_setAtHL : ∀ (b : Fin 8), P (Instr.setAtHL b))
    (f_jpCond : ∀ (c : Cond) (nn : Word), P (Instr.jpCond c nn))
    (f_jrCond : ∀ (c : Cond) (e : Byte), P (Instr.jrCond c e))
    (f_callCond : ∀ (c : Cond) (nn : Word), P (Instr.callCond c nn))
    (f_retCond : ∀ (c : Cond), P (Instr.retCond c))
    (f_rst : ∀ (b : Fin 8), P (Instr.rst b))
    (f_illegal : ∀ (ill : IllegalOp), P (Instr.illegal ill))
    (f_nop : P .nop)
    (f_ld_atBC_A : P .ld_atBC_A)
    (f_rlca : P .rlca)
    (f_ld_atnn_SP : ∀ (nn : Word), P (.ld_atnn_SP nn))
    (f_ld_A_atBC : P .ld_A_atBC)
    (f_rrca : P .rrca)
    (f_stop : ∀ (pad : Byte), P (.stop pad))
    (f_ld_atDE_A : P .ld_atDE_A)
    (f_rla : P .rla)
    (f_jr_e : ∀ (e : Byte), P (.jr_e e))
    (f_ld_A_atDE : P .ld_A_atDE)
    (f_rra : P .rra)
    (f_ld_atHLinc_A : P .ld_atHLinc_A)
    (f_daa : P .daa)
    (f_ld_A_atHLinc : P .ld_A_atHLinc)
    (f_cpl : P .cpl)
    (f_ld_atHLdec_A : P .ld_atHLdec_A)
    (f_inc_atHL : P .inc_atHL)
    (f_dec_atHL : P .dec_atHL)
    (f_ld_atHL_n : ∀ (n : Byte), P (.ld_atHL_n n))
    (f_scf : P .scf)
    (f_ld_A_atHLdec : P .ld_A_atHLdec)
    (f_ccf : P .ccf)
    (f_halt : P .halt)
    (f_jp_nn : ∀ (nn : Word), P (.jp_nn nn))
    (f_ret : P .ret)
    (f_prefix_CB : ∀ (op2 : Byte), P (.prefix_CB op2))
    (f_call_nn : ∀ (nn : Word), P (.call_nn nn))
    (f_reti : P .reti)
    (f_ldh_atn_A : ∀ (n : Byte), P (.ldh_atn_A n))
    (f_ldh_atC_A : P .ldh_atC_A)
    (f_add_SP_e : ∀ (e : Byte), P (.add_SP_e e))
    (f_jp_HL : P .jp_HL)
    (f_ld_atnn_A : ∀ (nn : Word), P (.ld_atnn_A nn))
    (f_ldh_A_atn : ∀ (n : Byte), P (.ldh_A_atn n))
    (f_ldh_A_atC : P .ldh_A_atC)
    (f_di : P .di)
    (f_ld_HL_SPe : ∀ (e : Byte), P (.ld_HL_SPe e))
    (f_ld_SP_HL : P .ld_SP_HL)
    (f_ld_A_atnn : ∀ (nn : Word), P (.ld_A_atnn nn))
    (f_ei : P .ei)
    (i : Instr) : P i := by
  cases i with
  | nop => exact f_nop
  | ld_BC_nn nn => exact f_ldPairNN .BC nn
  | ld_atBC_A => exact f_ld_atBC_A
  | inc_BC => exact f_incPair .BC
  | inc_B => exact f_incReg .B
  | dec_B => exact f_decReg .B
  | ld_B_n n => exact f_ldRegN .B n
  | rlca => exact f_rlca
  | ld_atnn_SP nn => exact f_ld_atnn_SP nn
  | add_HL_BC => exact f_addHL .BC
  | ld_A_atBC => exact f_ld_A_atBC
  | dec_BC => exact f_decPair .BC
  | inc_C => exact f_incReg .C
  | dec_C => exact f_decReg .C
  | ld_C_n n => exact f_ldRegN .C n
  | rrca => exact f_rrca
  | stop pad => exact f_stop pad
  | ld_DE_nn nn => exact f_ldPairNN .DE nn
  | ld_atDE_A => exact f_ld_atDE_A
  | inc_DE => exact f_incPair .DE
  | inc_D => exact f_incReg .D
  | dec_D => exact f_decReg .D
  | ld_D_n n => exact f_ldRegN .D n
  | rla => exact f_rla
  | jr_e e => exact f_jr_e e
  | add_HL_DE => exact f_addHL .DE
  | ld_A_atDE => exact f_ld_A_atDE
  | dec_DE => exact f_decPair .DE
  | inc_E => exact f_incReg .E
  | dec_E => exact f_decReg .E
  | ld_E_n n => exact f_ldRegN .E n
  | rra => exact f_rra
  | jr_NZ_e e => exact f_jrCond .NZ e
  | ld_HL_nn nn => exact f_ldPairNN .HL nn
  | ld_atHLinc_A => exact f_ld_atHLinc_A
  | inc_HL => exact f_incPair .HL
  | inc_H => exact f_incReg .H
  | dec_H => exact f_decReg .H
  | ld_H_n n => exact f_ldRegN .H n
  | daa => exact f_daa
  | jr_Z_e e => exact f_jrCond .Z e
  | add_HL_HL => exact f_addHL .HL
  | ld_A_atHLinc => exact f_ld_A_atHLinc
  | dec_HL => exact f_decPair .HL
  | inc_L => exact f_incReg .L
  | dec_L => exact f_decReg .L
  | ld_L_n n => exact f_ldRegN .L n
  | cpl => exact f_cpl
  | jr_NC_e e => exact f_jrCond .NC e
  | ld_SP_nn nn => exact f_ldPairNN .SP nn
  | ld_atHLdec_A => exact f_ld_atHLdec_A
  | inc_SP => exact f_incPair .SP
  | inc_atHL => exact f_inc_atHL
  | dec_atHL => exact f_dec_atHL
  | ld_atHL_n n => exact f_ld_atHL_n n
  | scf => exact f_scf
  | jr_C_e e => exact f_jrCond .C e
  | add_HL_SP => exact f_addHL .SP
  | ld_A_atHLdec => exact f_ld_A_atHLdec
  | dec_SP => exact f_decPair .SP
  | inc_A => exact f_incReg .A
  | dec_A => exact f_decReg .A
  | ld_A_n n => exact f_ldRegN .A n
  | ccf => exact f_ccf
  | ld_B_B => exact f_ldRegReg .B .B
  | ld_B_C => exact f_ldRegReg .B .C
  | ld_B_D => exact f_ldRegReg .B .D
  | ld_B_E => exact f_ldRegReg .B .E
  | ld_B_H => exact f_ldRegReg .B .H
  | ld_B_L => exact f_ldRegReg .B .L
  | ld_B_atHL => exact f_ldRegAtHL .B
  | ld_B_A => exact f_ldRegReg .B .A
  | ld_C_B => exact f_ldRegReg .C .B
  | ld_C_C => exact f_ldRegReg .C .C
  | ld_C_D => exact f_ldRegReg .C .D
  | ld_C_E => exact f_ldRegReg .C .E
  | ld_C_H => exact f_ldRegReg .C .H
  | ld_C_L => exact f_ldRegReg .C .L
  | ld_C_atHL => exact f_ldRegAtHL .C
  | ld_C_A => exact f_ldRegReg .C .A
  | ld_D_B => exact f_ldRegReg .D .B
  | ld_D_C => exact f_ldRegReg .D .C
  | ld_D_D => exact f_ldRegReg .D .D
  | ld_D_E => exact f_ldRegReg .D .E
  | ld_D_H => exact f_ldRegReg .D .H
  | ld_D_L => exact f_ldRegReg .D .L
  | ld_D_atHL => exact f_ldRegAtHL .D
  | ld_D_A => exact f_ldRegReg .D .A
  | ld_E_B => exact f_ldRegReg .E .B
  | ld_E_C => exact f_ldRegReg .E .C
  | ld_E_D => exact f_ldRegReg .E .D
  | ld_E_E => exact f_ldRegReg .E .E
  | ld_E_H => exact f_ldRegReg .E .H
  | ld_E_L => exact f_ldRegReg .E .L
  | ld_E_atHL => exact f_ldRegAtHL .E
  | ld_E_A => exact f_ldRegReg .E .A
  | ld_H_B => exact f_ldRegReg .H .B
  | ld_H_C => exact f_ldRegReg .H .C
  | ld_H_D => exact f_ldRegReg .H .D
  | ld_H_E => exact f_ldRegReg .H .E
  | ld_H_H => exact f_ldRegReg .H .H
  | ld_H_L => exact f_ldRegReg .H .L
  | ld_H_atHL => exact f_ldRegAtHL .H
  | ld_H_A => exact f_ldRegReg .H .A
  | ld_L_B => exact f_ldRegReg .L .B
  | ld_L_C => exact f_ldRegReg .L .C
  | ld_L_D => exact f_ldRegReg .L .D
  | ld_L_E => exact f_ldRegReg .L .E
  | ld_L_H => exact f_ldRegReg .L .H
  | ld_L_L => exact f_ldRegReg .L .L
  | ld_L_atHL => exact f_ldRegAtHL .L
  | ld_L_A => exact f_ldRegReg .L .A
  | ld_atHL_B => exact f_ldAtHLReg .B
  | ld_atHL_C => exact f_ldAtHLReg .C
  | ld_atHL_D => exact f_ldAtHLReg .D
  | ld_atHL_E => exact f_ldAtHLReg .E
  | ld_atHL_H => exact f_ldAtHLReg .H
  | ld_atHL_L => exact f_ldAtHLReg .L
  | halt => exact f_halt
  | ld_atHL_A => exact f_ldAtHLReg .A
  | ld_A_B => exact f_ldRegReg .A .B
  | ld_A_C => exact f_ldRegReg .A .C
  | ld_A_D => exact f_ldRegReg .A .D
  | ld_A_E => exact f_ldRegReg .A .E
  | ld_A_H => exact f_ldRegReg .A .H
  | ld_A_L => exact f_ldRegReg .A .L
  | ld_A_atHL => exact f_ldRegAtHL .A
  | ld_A_A => exact f_ldRegReg .A .A
  | add_A_B => exact f_aluReg .add .B
  | add_A_C => exact f_aluReg .add .C
  | add_A_D => exact f_aluReg .add .D
  | add_A_E => exact f_aluReg .add .E
  | add_A_H => exact f_aluReg .add .H
  | add_A_L => exact f_aluReg .add .L
  | add_A_atHL => exact f_aluAtHL .add
  | add_A_A => exact f_aluReg .add .A
  | adc_A_B => exact f_aluReg .adc .B
  | adc_A_C => exact f_aluReg .adc .C
  | adc_A_D => exact f_aluReg .adc .D
  | adc_A_E => exact f_aluReg .adc .E
  | adc_A_H => exact f_aluReg .adc .H
  | adc_A_L => exact f_aluReg .adc .L
  | adc_A_atHL => exact f_aluAtHL .adc
  | adc_A_A => exact f_aluReg .adc .A
  | sub_B => exact f_aluReg .sub .B
  | sub_C => exact f_aluReg .sub .C
  | sub_D => exact f_aluReg .sub .D
  | sub_E => exact f_aluReg .sub .E
  | sub_H => exact f_aluReg .sub .H
  | sub_L => exact f_aluReg .sub .L
  | sub_atHL => exact f_aluAtHL .sub
  | sub_A => exact f_aluReg .sub .A
  | sbc_A_B => exact f_aluReg .sbc .B
  | sbc_A_C => exact f_aluReg .sbc .C
  | sbc_A_D => exact f_aluReg .sbc .D
  | sbc_A_E => exact f_aluReg .sbc .E
  | sbc_A_H => exact f_aluReg .sbc .H
  | sbc_A_L => exact f_aluReg .sbc .L
  | sbc_A_atHL => exact f_aluAtHL .sbc
  | sbc_A_A => exact f_aluReg .sbc .A
  | and_B => exact f_aluReg .and .B
  | and_C => exact f_aluReg .and .C
  | and_D => exact f_aluReg .and .D
  | and_E => exact f_aluReg .and .E
  | and_H => exact f_aluReg .and .H
  | and_L => exact f_aluReg .and .L
  | and_atHL => exact f_aluAtHL .and
  | and_A => exact f_aluReg .and .A
  | xor_B => exact f_aluReg .xor .B
  | xor_C => exact f_aluReg .xor .C
  | xor_D => exact f_aluReg .xor .D
  | xor_E => exact f_aluReg .xor .E
  | xor_H => exact f_aluReg .xor .H
  | xor_L => exact f_aluReg .xor .L
  | xor_atHL => exact f_aluAtHL .xor
  | xor_A => exact f_aluReg .xor .A
  | or_B => exact f_aluReg .or .B
  | or_C => exact f_aluReg .or .C
  | or_D => exact f_aluReg .or .D
  | or_E => exact f_aluReg .or .E
  | or_H => exact f_aluReg .or .H
  | or_L => exact f_aluReg .or .L
  | or_atHL => exact f_aluAtHL .or
  | or_A => exact f_aluReg .or .A
  | cp_B => exact f_aluReg .cp .B
  | cp_C => exact f_aluReg .cp .C
  | cp_D => exact f_aluReg .cp .D
  | cp_E => exact f_aluReg .cp .E
  | cp_H => exact f_aluReg .cp .H
  | cp_L => exact f_aluReg .cp .L
  | cp_atHL => exact f_aluAtHL .cp
  | cp_A => exact f_aluReg .cp .A
  | ret_NZ => exact f_retCond .NZ
  | pop_BC => exact f_pop .BC
  | jp_NZ_nn nn => exact f_jpCond .NZ nn
  | jp_nn nn => exact f_jp_nn nn
  | call_NZ_nn nn => exact f_callCond .NZ nn
  | push_BC => exact f_push .BC
  | add_A_n n => exact f_aluN .add n
  | rst_00 => exact f_rst 0
  | ret_Z => exact f_retCond .Z
  | ret => exact f_ret
  | jp_Z_nn nn => exact f_jpCond .Z nn
  | prefix_CB op2 => exact f_prefix_CB op2
  | call_Z_nn nn => exact f_callCond .Z nn
  | call_nn nn => exact f_call_nn nn
  | adc_A_n n => exact f_aluN .adc n
  | rst_08 => exact f_rst 1
  | ret_NC => exact f_retCond .NC
  | pop_DE => exact f_pop .DE
  | jp_NC_nn nn => exact f_jpCond .NC nn
  | illegal_D3 => exact f_illegal .D3
  | call_NC_nn nn => exact f_callCond .NC nn
  | push_DE => exact f_push .DE
  | sub_n n => exact f_aluN .sub n
  | rst_10 => exact f_rst 2
  | ret_C => exact f_retCond .C
  | reti => exact f_reti
  | jp_C_nn nn => exact f_jpCond .C nn
  | illegal_DB => exact f_illegal .DB
  | call_C_nn nn => exact f_callCond .C nn
  | illegal_DD => exact f_illegal .DD
  | sbc_A_n n => exact f_aluN .sbc n
  | rst_18 => exact f_rst 3
  | ldh_atn_A n => exact f_ldh_atn_A n
  | pop_HL => exact f_pop .HL
  | ldh_atC_A => exact f_ldh_atC_A
  | illegal_E3 => exact f_illegal .E3
  | illegal_E4 => exact f_illegal .E4
  | push_HL => exact f_push .HL
  | and_n n => exact f_aluN .and n
  | rst_20 => exact f_rst 4
  | add_SP_e e => exact f_add_SP_e e
  | jp_HL => exact f_jp_HL
  | ld_atnn_A nn => exact f_ld_atnn_A nn
  | illegal_EB => exact f_illegal .EB
  | illegal_EC => exact f_illegal .EC
  | illegal_ED => exact f_illegal .ED
  | xor_n n => exact f_aluN .xor n
  | rst_28 => exact f_rst 5
  | ldh_A_atn n => exact f_ldh_A_atn n
  | pop_AF => exact f_pop .AF
  | ldh_A_atC => exact f_ldh_A_atC
  | di => exact f_di
  | illegal_F4 => exact f_illegal .F4
  | push_AF => exact f_push .AF
  | or_n n => exact f_aluN .or n
  | rst_30 => exact f_rst 6
  | ld_HL_SPe e => exact f_ld_HL_SPe e
  | ld_SP_HL => exact f_ld_SP_HL
  | ld_A_atnn nn => exact f_ld_A_atnn nn
  | ei => exact f_ei
  | illegal_FC => exact f_illegal .FC
  | illegal_FD => exact f_illegal .FD
  | cp_n n => exact f_aluN .cp n
  | rst_38 => exact f_rst 7
  | rlc_B => exact f_rotReg .rlc .B
  | rlc_C => exact f_rotReg .rlc .C
  | rlc_D => exact f_rotReg .rlc .D
  | rlc_E => exact f_rotReg .rlc .E
  | rlc_H => exact f_rotReg .rlc .H
  | rlc_L => exact f_rotReg .rlc .L
  | rlc_atHL => exact f_rotAtHL .rlc
  | rlc_A => exact f_rotReg .rlc .A
  | rrc_B => exact f_rotReg .rrc .B
  | rrc_C => exact f_rotReg .rrc .C
  | rrc_D => exact f_rotReg .rrc .D
  | rrc_E => exact f_rotReg .rrc .E
  | rrc_H => exact f_rotReg .rrc .H
  | rrc_L => exact f_rotReg .rrc .L
  | rrc_atHL => exact f_rotAtHL .rrc
  | rrc_A => exact f_rotReg .rrc .A
  | rl_B => exact f_rotReg .rl .B
  | rl_C => exact f_rotReg .rl .C
  | rl_D => exact f_rotReg .rl .D
  | rl_E => exact f_rotReg .rl .E
  | rl_H => exact f_rotReg .rl .H
  | rl_L => exact f_rotReg .rl .L
  | rl_atHL => exact f_rotAtHL .rl
  | rl_A => exact f_rotReg .rl .A
  | rr_B => exact f_rotReg .rr .B
  | rr_C => exact f_rotReg .rr .C
  | rr_D => exact f_rotReg .rr .D
  | rr_E => exact f_rotReg .rr .E
  | rr_H => exact f_rotReg .rr .H
  | rr_L => exact f_rotReg .rr .L
  | rr_atHL => exact f_rotAtHL .rr
  | rr_A => exact f_rotReg .rr .A
  | sla_B => exact f_rotReg .sla .B
  | sla_C => exact f_rotReg .sla .C
  | sla_D => exact f_rotReg .sla .D
  | sla_E => exact f_rotReg .sla .E
  | sla_H => exact f_rotReg .sla .H
  | sla_L => exact f_rotReg .sla .L
  | sla_atHL => exact f_rotAtHL .sla
  | sla_A => exact f_rotReg .sla .A
  | sra_B => exact f_rotReg .sra .B
  | sra_C => exact f_rotReg .sra .C
  | sra_D => exact f_rotReg .sra .D
  | sra_E => exact f_rotReg .sra .E
  | sra_H => exact f_rotReg .sra .H
  | sra_L => exact f_rotReg .sra .L
  | sra_atHL => exact f_rotAtHL .sra
  | sra_A => exact f_rotReg .sra .A
  | swap_B => exact f_rotReg .swap .B
  | swap_C => exact f_rotReg .swap .C
  | swap_D => exact f_rotReg .swap .D
  | swap_E => exact f_rotReg .swap .E
  | swap_H => exact f_rotReg .swap .H
  | swap_L => exact f_rotReg .swap .L
  | swap_atHL => exact f_rotAtHL .swap
  | swap_A => exact f_rotReg .swap .A
  | srl_B => exact f_rotReg .srl .B
  | srl_C => exact f_rotReg .srl .C
  | srl_D => exact f_rotReg .srl .D
  | srl_E => exact f_rotReg .srl .E
  | srl_H => exact f_rotReg .srl .H
  | srl_L => exact f_rotReg .srl .L
  | srl_atHL => exact f_rotAtHL .srl
  | srl_A => exact f_rotReg .srl .A
  | bit_0_B => exact f_bitReg 0 .B
  | bit_0_C => exact f_bitReg 0 .C
  | bit_0_D => exact f_bitReg 0 .D
  | bit_0_E => exact f_bitReg 0 .E
  | bit_0_H => exact f_bitReg 0 .H
  | bit_0_L => exact f_bitReg 0 .L
  | bit_0_atHL => exact f_bitAtHL 0
  | bit_0_A => exact f_bitReg 0 .A
  | bit_1_B => exact f_bitReg 1 .B
  | bit_1_C => exact f_bitReg 1 .C
  | bit_1_D => exact f_bitReg 1 .D
  | bit_1_E => exact f_bitReg 1 .E
  | bit_1_H => exact f_bitReg 1 .H
  | bit_1_L => exact f_bitReg 1 .L
  | bit_1_atHL => exact f_bitAtHL 1
  | bit_1_A => exact f_bitReg 1 .A
  | bit_2_B => exact f_bitReg 2 .B
  | bit_2_C => exact f_bitReg 2 .C
  | bit_2_D => exact f_bitReg 2 .D
  | bit_2_E => exact f_bitReg 2 .E
  | bit_2_H => exact f_bitReg 2 .H
  | bit_2_L => exact f_bitReg 2 .L
  | bit_2_atHL => exact f_bitAtHL 2
  | bit_2_A => exact f_bitReg 2 .A
  | bit_3_B => exact f_bitReg 3 .B
  | bit_3_C => exact f_bitReg 3 .C
  | bit_3_D => exact f_bitReg 3 .D
  | bit_3_E => exact f_bitReg 3 .E
  | bit_3_H => exact f_bitReg 3 .H
  | bit_3_L => exact f_bitReg 3 .L
  | bit_3_atHL => exact f_bitAtHL 3
  | bit_3_A => exact f_bitReg 3 .A
  | bit_4_B => exact f_bitReg 4 .B
  | bit_4_C => exact f_bitReg 4 .C
  | bit_4_D => exact f_bitReg 4 .D
  | bit_4_E => exact f_bitReg 4 .E
  | bit_4_H => exact f_bitReg 4 .H
  | bit_4_L => exact f_bitReg 4 .L
  | bit_4_atHL => exact f_bitAtHL 4
  | bit_4_A => exact f_bitReg 4 .A
  | bit_5_B => exact f_bitReg 5 .B
  | bit_5_C => exact f_bitReg 5 .C
  | bit_5_D => exact f_bitReg 5 .D
  | bit_5_E => exact f_bitReg 5 .E
  | bit_5_H => exact f_bitReg 5 .H
  | bit_5_L => exact f_bitReg 5 .L
  | bit_5_atHL => exact f_bitAtHL 5
  | bit_5_A => exact f_bitReg 5 .A
  | bit_6_B => exact f_bitReg 6 .B
  | bit_6_C => exact f_bitReg 6 .C
  | bit_6_D => exact f_bitReg 6 .D
  | bit_6_E => exact f_bitReg 6 .E
  | bit_6_H => exact f_bitReg 6 .H
  | bit_6_L => exact f_bitReg 6 .L
  | bit_6_atHL => exact f_bitAtHL 6
  | bit_6_A => exact f_bitReg 6 .A
  | bit_7_B => exact f_bitReg 7 .B
  | bit_7_C => exact f_bitReg 7 .C
  | bit_7_D => exact f_bitReg 7 .D
  | bit_7_E => exact f_bitReg 7 .E
  | bit_7_H => exact f_bitReg 7 .H
  | bit_7_L => exact f_bitReg 7 .L
  | bit_7_atHL => exact f_bitAtHL 7
  | bit_7_A => exact f_bitReg 7 .A
  | res_0_B => exact f_resReg 0 .B
  | res_0_C => exact f_resReg 0 .C
  | res_0_D => exact f_resReg 0 .D
  | res_0_E => exact f_resReg 0 .E
  | res_0_H => exact f_resReg 0 .H
  | res_0_L => exact f_resReg 0 .L
  | res_0_atHL => exact f_resAtHL 0
  | res_0_A => exact f_resReg 0 .A
  | res_1_B => exact f_resReg 1 .B
  | res_1_C => exact f_resReg 1 .C
  | res_1_D => exact f_resReg 1 .D
  | res_1_E => exact f_resReg 1 .E
  | res_1_H => exact f_resReg 1 .H
  | res_1_L => exact f_resReg 1 .L
  | res_1_atHL => exact f_resAtHL 1
  | res_1_A => exact f_resReg 1 .A
  | res_2_B => exact f_resReg 2 .B
  | res_2_C => exact f_resReg 2 .C
  | res_2_D => exact f_resReg 2 .D
  | res_2_E => exact f_resReg 2 .E
  | res_2_H => exact f_resReg 2 .H
  | res_2_L => exact f_resReg 2 .L
  | res_2_atHL => exact f_resAtHL 2
  | res_2_A => exact f_resReg 2 .A
  | res_3_B => exact f_resReg 3 .B
  | res_3_C => exact f_resReg 3 .C
  | res_3_D => exact f_resReg 3 .D
  | res_3_E => exact f_resReg 3 .E
  | res_3_H => exact f_resReg 3 .H
  | res_3_L => exact f_resReg 3 .L
  | res_3_atHL => exact f_resAtHL 3
  | res_3_A => exact f_resReg 3 .A
  | res_4_B => exact f_resReg 4 .B
  | res_4_C => exact f_resReg 4 .C
  | res_4_D => exact f_resReg 4 .D
  | res_4_E => exact f_resReg 4 .E
  | res_4_H => exact f_resReg 4 .H
  | res_4_L => exact f_resReg 4 .L
  | res_4_atHL => exact f_resAtHL 4
  | res_4_A => exact f_resReg 4 .A
  | res_5_B => exact f_resReg 5 .B
  | res_5_C => exact f_resReg 5 .C
  | res_5_D => exact f_resReg 5 .D
  | res_5_E => exact f_resReg 5 .E
  | res_5_H => exact f_resReg 5 .H
  | res_5_L => exact f_resReg 5 .L
  | res_5_atHL => exact f_resAtHL 5
  | res_5_A => exact f_resReg 5 .A
  | res_6_B => exact f_resReg 6 .B
  | res_6_C => exact f_resReg 6 .C
  | res_6_D => exact f_resReg 6 .D
  | res_6_E => exact f_resReg 6 .E
  | res_6_H => exact f_resReg 6 .H
  | res_6_L => exact f_resReg 6 .L
  | res_6_atHL => exact f_resAtHL 6
  | res_6_A => exact f_resReg 6 .A
  | res_7_B => exact f_resReg 7 .B
  | res_7_C => exact f_resReg 7 .C
  | res_7_D => exact f_resReg 7 .D
  | res_7_E => exact f_resReg 7 .E
  | res_7_H => exact f_resReg 7 .H
  | res_7_L => exact f_resReg 7 .L
  | res_7_atHL => exact f_resAtHL 7
  | res_7_A => exact f_resReg 7 .A
  | set_0_B => exact f_setReg 0 .B
  | set_0_C => exact f_setReg 0 .C
  | set_0_D => exact f_setReg 0 .D
  | set_0_E => exact f_setReg 0 .E
  | set_0_H => exact f_setReg 0 .H
  | set_0_L => exact f_setReg 0 .L
  | set_0_atHL => exact f_setAtHL 0
  | set_0_A => exact f_setReg 0 .A
  | set_1_B => exact f_setReg 1 .B
  | set_1_C => exact f_setReg 1 .C
  | set_1_D => exact f_setReg 1 .D
  | set_1_E => exact f_setReg 1 .E
  | set_1_H => exact f_setReg 1 .H
  | set_1_L => exact f_setReg 1 .L
  | set_1_atHL => exact f_setAtHL 1
  | set_1_A => exact f_setReg 1 .A
  | set_2_B => exact f_setReg 2 .B
  | set_2_C => exact f_setReg 2 .C
  | set_2_D => exact f_setReg 2 .D
  | set_2_E => exact f_setReg 2 .E
  | set_2_H => exact f_setReg 2 .H
  | set_2_L => exact f_setReg 2 .L
  | set_2_atHL => exact f_setAtHL 2
  | set_2_A => exact f_setReg 2 .A
  | set_3_B => exact f_setReg 3 .B
  | set_3_C => exact f_setReg 3 .C
  | set_3_D => exact f_setReg 3 .D
  | set_3_E => exact f_setReg 3 .E
  | set_3_H => exact f_setReg 3 .H
  | set_3_L => exact f_setReg 3 .L
  | set_3_atHL => exact f_setAtHL 3
  | set_3_A => exact f_setReg 3 .A
  | set_4_B => exact f_setReg 4 .B
  | set_4_C => exact f_setReg 4 .C
  | set_4_D => exact f_setReg 4 .D
  | set_4_E => exact f_setReg 4 .E
  | set_4_H => exact f_setReg 4 .H
  | set_4_L => exact f_setReg 4 .L
  | set_4_atHL => exact f_setAtHL 4
  | set_4_A => exact f_setReg 4 .A
  | set_5_B => exact f_setReg 5 .B
  | set_5_C => exact f_setReg 5 .C
  | set_5_D => exact f_setReg 5 .D
  | set_5_E => exact f_setReg 5 .E
  | set_5_H => exact f_setReg 5 .H
  | set_5_L => exact f_setReg 5 .L
  | set_5_atHL => exact f_setAtHL 5
  | set_5_A => exact f_setReg 5 .A
  | set_6_B => exact f_setReg 6 .B
  | set_6_C => exact f_setReg 6 .C
  | set_6_D => exact f_setReg 6 .D
  | set_6_E => exact f_setReg 6 .E
  | set_6_H => exact f_setReg 6 .H
  | set_6_L => exact f_setReg 6 .L
  | set_6_atHL => exact f_setAtHL 6
  | set_6_A => exact f_setReg 6 .A
  | set_7_B => exact f_setReg 7 .B
  | set_7_C => exact f_setReg 7 .C
  | set_7_D => exact f_setReg 7 .D
  | set_7_E => exact f_setReg 7 .E
  | set_7_H => exact f_setReg 7 .H
  | set_7_L => exact f_setReg 7 .L
  | set_7_atHL => exact f_setAtHL 7
  | set_7_A => exact f_setReg 7 .A

end Sys2Proof
end

