-- ==== Sys2Proof/Laws/Frames.lean ====
section
/-!
SUPPORT. The frames of Safety.lean from the shape of a result: an instruction that only sets a register, registers and flags, a pair, or PC
meets its frame.
-/

namespace Sys2Proof.Machine

theorem SetsReg.of {i : Instr} {d : Reg8} {v : Byte} {cost : Nat} {s : State} (h : exec i s = done cost (s.setReg d v)) :
    SetsReg i d v cost s :=
  ⟨_, h, by cases d <;> rfl, fun q hq => by rw [← setReg_reg_other s d q v hq]; cases q <;> rfl, by cases d <;> rfl,
    fun x => by cases d <;> rfl⟩

theorem SetsRegFlags.of {i : Instr} {d : Reg8} {v : Byte} {f : Flags} {cost : Nat} {s : State}
    (h : exec i s = done cost ((s.setReg d v).setFlags f)) : SetsRegFlags i d v f cost s :=
  ⟨_, h, by cases d <;> rfl, rfl, fun q hq => by rw [← setReg_reg_other s d q v hq]; cases q <;> rfl, by cases d <;> rfl,
    fun x => by cases d <;> rfl⟩

/-- A form that sets flags only, stated of the register A, which keeps its value. -/
theorem SetsRegFlags.of_flags {i : Instr} {f : Flags} {cost : Nat} {s : State} (h : exec i s = done cost (s.setFlags f)) :
    SetsRegFlags i .A s.cpu.a f cost s :=
  ⟨_, h, rfl, rfl, fun q _ => by cases q <;> rfl, rfl, fun x => rfl⟩

theorem SetsPairFlags.of {i : Instr} {p : Pair} {v : Word} {f : Flags} {cost : Nat} {s : State}
    (h : exec i s = done cost ((s.setPair p v).setFlags f)) : SetsPairFlags i p v f cost s :=
  ⟨_, h, by have := setPair_pair s p v; cases p <;> exact this, rfl,
    fun q hq => by rw [← setPair_pair_other s p q v hq]; cases p <;> cases q <;> rfl, by cases p <;> rfl, by cases p <;> rfl,
    fun x => by cases p <;> rfl⟩

theorem SetsPairFlags.of_pair {i : Instr} {p : Pair} {v : Word} {cost : Nat} {s : State} (h : exec i s = done cost (s.setPair p v)) :
    SetsPairFlags i p v s.cpu.f cost s :=
  SetsPairFlags.of (by rw [h]; cases p <;> rfl)

theorem condHolds_iff (c : Cond) (f : Flags) : condHolds c f = true ↔ CondTrue c f := by
  cases c <;> simp [condHolds, CondTrue]

end Sys2Proof.Machine
end

