-- ==== Sys2Proof/Laws/PerInstr.lean ====
section
/-!
SUPPORT. The family EncodedLength: an instruction's encoding starts with its opcode byte, and that byte alone decides its length
(30_encoding.md R160).
-/

/-- The encoding of `i` is not empty and its first byte decides its length. -/
def Sys2Proof.Laws.EncodedLength.Statement (i : Sys2Proof.Instr) : Prop :=
  (Sys2Proof.encode i).head?.map Sys2Proof.opLength = some (Sys2Proof.encode i).length

theorem Sys2Proof.Laws.EncodedLength.nop : Sys2Proof.Laws.EncodedLength.Statement .nop := rfl
theorem Sys2Proof.Laws.EncodedLength.ld_BC_nn (nn : Sys2Proof.Word) : Sys2Proof.Laws.EncodedLength.Statement (.ld_BC_nn nn) := rfl
theorem Sys2Proof.Laws.EncodedLength.ld_atBC_A : Sys2Proof.Laws.EncodedLength.Statement .ld_atBC_A := rfl
theorem Sys2Proof.Laws.EncodedLength.inc_BC : Sys2Proof.Laws.EncodedLength.Statement .inc_BC := rfl
theorem Sys2Proof.Laws.EncodedLength.inc_B : Sys2Proof.Laws.EncodedLength.Statement .inc_B := rfl
theorem Sys2Proof.Laws.EncodedLength.dec_B : Sys2Proof.Laws.EncodedLength.Statement .dec_B := rfl
theorem Sys2Proof.Laws.EncodedLength.ld_B_n (n : Sys2Proof.Byte) : Sys2Proof.Laws.EncodedLength.Statement (.ld_B_n n) := rfl
theorem Sys2Proof.Laws.EncodedLength.rlca : Sys2Proof.Laws.EncodedLength.Statement .rlca := rfl
theorem Sys2Proof.Laws.EncodedLength.ld_atnn_SP (nn : Sys2Proof.Word) : Sys2Proof.Laws.EncodedLength.Statement (.ld_atnn_SP nn) := rfl
theorem Sys2Proof.Laws.EncodedLength.add_HL_BC : Sys2Proof.Laws.EncodedLength.Statement .add_HL_BC := rfl
theorem Sys2Proof.Laws.EncodedLength.ld_A_atBC : Sys2Proof.Laws.EncodedLength.Statement .ld_A_atBC := rfl
theorem Sys2Proof.Laws.EncodedLength.dec_BC : Sys2Proof.Laws.EncodedLength.Statement .dec_BC := rfl
theorem Sys2Proof.Laws.EncodedLength.inc_C : Sys2Proof.Laws.EncodedLength.Statement .inc_C := rfl
theorem Sys2Proof.Laws.EncodedLength.dec_C : Sys2Proof.Laws.EncodedLength.Statement .dec_C := rfl
theorem Sys2Proof.Laws.EncodedLength.ld_C_n (n : Sys2Proof.Byte) : Sys2Proof.Laws.EncodedLength.Statement (.ld_C_n n) := rfl
theorem Sys2Proof.Laws.EncodedLength.rrca : Sys2Proof.Laws.EncodedLength.Statement .rrca := rfl
theorem Sys2Proof.Laws.EncodedLength.stop (pad : Sys2Proof.Byte) : Sys2Proof.Laws.EncodedLength.Statement (.stop pad) := rfl
theorem Sys2Proof.Laws.EncodedLength.ld_DE_nn (nn : Sys2Proof.Word) : Sys2Proof.Laws.EncodedLength.Statement (.ld_DE_nn nn) := rfl
theorem Sys2Proof.Laws.EncodedLength.ld_atDE_A : Sys2Proof.Laws.EncodedLength.Statement .ld_atDE_A := rfl
theorem Sys2Proof.Laws.EncodedLength.inc_DE : Sys2Proof.Laws.EncodedLength.Statement .inc_DE := rfl
theorem Sys2Proof.Laws.EncodedLength.inc_D : Sys2Proof.Laws.EncodedLength.Statement .inc_D := rfl
theorem Sys2Proof.Laws.EncodedLength.dec_D : Sys2Proof.Laws.EncodedLength.Statement .dec_D := rfl
theorem Sys2Proof.Laws.EncodedLength.ld_D_n (n : Sys2Proof.Byte) : Sys2Proof.Laws.EncodedLength.Statement (.ld_D_n n) := rfl
theorem Sys2Proof.Laws.EncodedLength.rla : Sys2Proof.Laws.EncodedLength.Statement .rla := rfl
theorem Sys2Proof.Laws.EncodedLength.jr_e (e : Sys2Proof.Byte) : Sys2Proof.Laws.EncodedLength.Statement (.jr_e e) := rfl
theorem Sys2Proof.Laws.EncodedLength.add_HL_DE : Sys2Proof.Laws.EncodedLength.Statement .add_HL_DE := rfl
theorem Sys2Proof.Laws.EncodedLength.ld_A_atDE : Sys2Proof.Laws.EncodedLength.Statement .ld_A_atDE := rfl
theorem Sys2Proof.Laws.EncodedLength.dec_DE : Sys2Proof.Laws.EncodedLength.Statement .dec_DE := rfl
theorem Sys2Proof.Laws.EncodedLength.inc_E : Sys2Proof.Laws.EncodedLength.Statement .inc_E := rfl
theorem Sys2Proof.Laws.EncodedLength.dec_E : Sys2Proof.Laws.EncodedLength.Statement .dec_E := rfl
theorem Sys2Proof.Laws.EncodedLength.ld_E_n (n : Sys2Proof.Byte) : Sys2Proof.Laws.EncodedLength.Statement (.ld_E_n n) := rfl
theorem Sys2Proof.Laws.EncodedLength.rra : Sys2Proof.Laws.EncodedLength.Statement .rra := rfl
theorem Sys2Proof.Laws.EncodedLength.jr_NZ_e (e : Sys2Proof.Byte) : Sys2Proof.Laws.EncodedLength.Statement (.jr_NZ_e e) := rfl
theorem Sys2Proof.Laws.EncodedLength.ld_HL_nn (nn : Sys2Proof.Word) : Sys2Proof.Laws.EncodedLength.Statement (.ld_HL_nn nn) := rfl
theorem Sys2Proof.Laws.EncodedLength.ld_atHLinc_A : Sys2Proof.Laws.EncodedLength.Statement .ld_atHLinc_A := rfl
theorem Sys2Proof.Laws.EncodedLength.inc_HL : Sys2Proof.Laws.EncodedLength.Statement .inc_HL := rfl
theorem Sys2Proof.Laws.EncodedLength.inc_H : Sys2Proof.Laws.EncodedLength.Statement .inc_H := rfl
theorem Sys2Proof.Laws.EncodedLength.dec_H : Sys2Proof.Laws.EncodedLength.Statement .dec_H := rfl
theorem Sys2Proof.Laws.EncodedLength.ld_H_n (n : Sys2Proof.Byte) : Sys2Proof.Laws.EncodedLength.Statement (.ld_H_n n) := rfl
theorem Sys2Proof.Laws.EncodedLength.daa : Sys2Proof.Laws.EncodedLength.Statement .daa := rfl
theorem Sys2Proof.Laws.EncodedLength.jr_Z_e (e : Sys2Proof.Byte) : Sys2Proof.Laws.EncodedLength.Statement (.jr_Z_e e) := rfl
theorem Sys2Proof.Laws.EncodedLength.add_HL_HL : Sys2Proof.Laws.EncodedLength.Statement .add_HL_HL := rfl
theorem Sys2Proof.Laws.EncodedLength.ld_A_atHLinc : Sys2Proof.Laws.EncodedLength.Statement .ld_A_atHLinc := rfl
theorem Sys2Proof.Laws.EncodedLength.dec_HL : Sys2Proof.Laws.EncodedLength.Statement .dec_HL := rfl
theorem Sys2Proof.Laws.EncodedLength.inc_L : Sys2Proof.Laws.EncodedLength.Statement .inc_L := rfl
theorem Sys2Proof.Laws.EncodedLength.dec_L : Sys2Proof.Laws.EncodedLength.Statement .dec_L := rfl
theorem Sys2Proof.Laws.EncodedLength.ld_L_n (n : Sys2Proof.Byte) : Sys2Proof.Laws.EncodedLength.Statement (.ld_L_n n) := rfl
theorem Sys2Proof.Laws.EncodedLength.cpl : Sys2Proof.Laws.EncodedLength.Statement .cpl := rfl
theorem Sys2Proof.Laws.EncodedLength.jr_NC_e (e : Sys2Proof.Byte) : Sys2Proof.Laws.EncodedLength.Statement (.jr_NC_e e) := rfl
theorem Sys2Proof.Laws.EncodedLength.ld_SP_nn (nn : Sys2Proof.Word) : Sys2Proof.Laws.EncodedLength.Statement (.ld_SP_nn nn) := rfl
theorem Sys2Proof.Laws.EncodedLength.ld_atHLdec_A : Sys2Proof.Laws.EncodedLength.Statement .ld_atHLdec_A := rfl
theorem Sys2Proof.Laws.EncodedLength.inc_SP : Sys2Proof.Laws.EncodedLength.Statement .inc_SP := rfl
theorem Sys2Proof.Laws.EncodedLength.inc_atHL : Sys2Proof.Laws.EncodedLength.Statement .inc_atHL := rfl
theorem Sys2Proof.Laws.EncodedLength.dec_atHL : Sys2Proof.Laws.EncodedLength.Statement .dec_atHL := rfl
theorem Sys2Proof.Laws.EncodedLength.ld_atHL_n (n : Sys2Proof.Byte) : Sys2Proof.Laws.EncodedLength.Statement (.ld_atHL_n n) := rfl
theorem Sys2Proof.Laws.EncodedLength.scf : Sys2Proof.Laws.EncodedLength.Statement .scf := rfl
theorem Sys2Proof.Laws.EncodedLength.jr_C_e (e : Sys2Proof.Byte) : Sys2Proof.Laws.EncodedLength.Statement (.jr_C_e e) := rfl
theorem Sys2Proof.Laws.EncodedLength.add_HL_SP : Sys2Proof.Laws.EncodedLength.Statement .add_HL_SP := rfl
theorem Sys2Proof.Laws.EncodedLength.ld_A_atHLdec : Sys2Proof.Laws.EncodedLength.Statement .ld_A_atHLdec := rfl
theorem Sys2Proof.Laws.EncodedLength.dec_SP : Sys2Proof.Laws.EncodedLength.Statement .dec_SP := rfl
theorem Sys2Proof.Laws.EncodedLength.inc_A : Sys2Proof.Laws.EncodedLength.Statement .inc_A := rfl
theorem Sys2Proof.Laws.EncodedLength.dec_A : Sys2Proof.Laws.EncodedLength.Statement .dec_A := rfl
theorem Sys2Proof.Laws.EncodedLength.ld_A_n (n : Sys2Proof.Byte) : Sys2Proof.Laws.EncodedLength.Statement (.ld_A_n n) := rfl
theorem Sys2Proof.Laws.EncodedLength.ccf : Sys2Proof.Laws.EncodedLength.Statement .ccf := rfl
theorem Sys2Proof.Laws.EncodedLength.ld_B_B : Sys2Proof.Laws.EncodedLength.Statement .ld_B_B := rfl
theorem Sys2Proof.Laws.EncodedLength.ld_B_C : Sys2Proof.Laws.EncodedLength.Statement .ld_B_C := rfl
theorem Sys2Proof.Laws.EncodedLength.ld_B_D : Sys2Proof.Laws.EncodedLength.Statement .ld_B_D := rfl
theorem Sys2Proof.Laws.EncodedLength.ld_B_E : Sys2Proof.Laws.EncodedLength.Statement .ld_B_E := rfl
theorem Sys2Proof.Laws.EncodedLength.ld_B_H : Sys2Proof.Laws.EncodedLength.Statement .ld_B_H := rfl
theorem Sys2Proof.Laws.EncodedLength.ld_B_L : Sys2Proof.Laws.EncodedLength.Statement .ld_B_L := rfl
theorem Sys2Proof.Laws.EncodedLength.ld_B_atHL : Sys2Proof.Laws.EncodedLength.Statement .ld_B_atHL := rfl
theorem Sys2Proof.Laws.EncodedLength.ld_B_A : Sys2Proof.Laws.EncodedLength.Statement .ld_B_A := rfl
theorem Sys2Proof.Laws.EncodedLength.ld_C_B : Sys2Proof.Laws.EncodedLength.Statement .ld_C_B := rfl
theorem Sys2Proof.Laws.EncodedLength.ld_C_C : Sys2Proof.Laws.EncodedLength.Statement .ld_C_C := rfl
theorem Sys2Proof.Laws.EncodedLength.ld_C_D : Sys2Proof.Laws.EncodedLength.Statement .ld_C_D := rfl
theorem Sys2Proof.Laws.EncodedLength.ld_C_E : Sys2Proof.Laws.EncodedLength.Statement .ld_C_E := rfl
theorem Sys2Proof.Laws.EncodedLength.ld_C_H : Sys2Proof.Laws.EncodedLength.Statement .ld_C_H := rfl
theorem Sys2Proof.Laws.EncodedLength.ld_C_L : Sys2Proof.Laws.EncodedLength.Statement .ld_C_L := rfl
theorem Sys2Proof.Laws.EncodedLength.ld_C_atHL : Sys2Proof.Laws.EncodedLength.Statement .ld_C_atHL := rfl
theorem Sys2Proof.Laws.EncodedLength.ld_C_A : Sys2Proof.Laws.EncodedLength.Statement .ld_C_A := rfl
theorem Sys2Proof.Laws.EncodedLength.ld_D_B : Sys2Proof.Laws.EncodedLength.Statement .ld_D_B := rfl
theorem Sys2Proof.Laws.EncodedLength.ld_D_C : Sys2Proof.Laws.EncodedLength.Statement .ld_D_C := rfl
theorem Sys2Proof.Laws.EncodedLength.ld_D_D : Sys2Proof.Laws.EncodedLength.Statement .ld_D_D := rfl
theorem Sys2Proof.Laws.EncodedLength.ld_D_E : Sys2Proof.Laws.EncodedLength.Statement .ld_D_E := rfl
theorem Sys2Proof.Laws.EncodedLength.ld_D_H : Sys2Proof.Laws.EncodedLength.Statement .ld_D_H := rfl
theorem Sys2Proof.Laws.EncodedLength.ld_D_L : Sys2Proof.Laws.EncodedLength.Statement .ld_D_L := rfl
theorem Sys2Proof.Laws.EncodedLength.ld_D_atHL : Sys2Proof.Laws.EncodedLength.Statement .ld_D_atHL := rfl
theorem Sys2Proof.Laws.EncodedLength.ld_D_A : Sys2Proof.Laws.EncodedLength.Statement .ld_D_A := rfl
theorem Sys2Proof.Laws.EncodedLength.ld_E_B : Sys2Proof.Laws.EncodedLength.Statement .ld_E_B := rfl
theorem Sys2Proof.Laws.EncodedLength.ld_E_C : Sys2Proof.Laws.EncodedLength.Statement .ld_E_C := rfl
theorem Sys2Proof.Laws.EncodedLength.ld_E_D : Sys2Proof.Laws.EncodedLength.Statement .ld_E_D := rfl
theorem Sys2Proof.Laws.EncodedLength.ld_E_E : Sys2Proof.Laws.EncodedLength.Statement .ld_E_E := rfl
theorem Sys2Proof.Laws.EncodedLength.ld_E_H : Sys2Proof.Laws.EncodedLength.Statement .ld_E_H := rfl
theorem Sys2Proof.Laws.EncodedLength.ld_E_L : Sys2Proof.Laws.EncodedLength.Statement .ld_E_L := rfl
theorem Sys2Proof.Laws.EncodedLength.ld_E_atHL : Sys2Proof.Laws.EncodedLength.Statement .ld_E_atHL := rfl
theorem Sys2Proof.Laws.EncodedLength.ld_E_A : Sys2Proof.Laws.EncodedLength.Statement .ld_E_A := rfl
theorem Sys2Proof.Laws.EncodedLength.ld_H_B : Sys2Proof.Laws.EncodedLength.Statement .ld_H_B := rfl
theorem Sys2Proof.Laws.EncodedLength.ld_H_C : Sys2Proof.Laws.EncodedLength.Statement .ld_H_C := rfl
theorem Sys2Proof.Laws.EncodedLength.ld_H_D : Sys2Proof.Laws.EncodedLength.Statement .ld_H_D := rfl
theorem Sys2Proof.Laws.EncodedLength.ld_H_E : Sys2Proof.Laws.EncodedLength.Statement .ld_H_E := rfl
theorem Sys2Proof.Laws.EncodedLength.ld_H_H : Sys2Proof.Laws.EncodedLength.Statement .ld_H_H := rfl
theorem Sys2Proof.Laws.EncodedLength.ld_H_L : Sys2Proof.Laws.EncodedLength.Statement .ld_H_L := rfl
theorem Sys2Proof.Laws.EncodedLength.ld_H_atHL : Sys2Proof.Laws.EncodedLength.Statement .ld_H_atHL := rfl
theorem Sys2Proof.Laws.EncodedLength.ld_H_A : Sys2Proof.Laws.EncodedLength.Statement .ld_H_A := rfl
theorem Sys2Proof.Laws.EncodedLength.ld_L_B : Sys2Proof.Laws.EncodedLength.Statement .ld_L_B := rfl
theorem Sys2Proof.Laws.EncodedLength.ld_L_C : Sys2Proof.Laws.EncodedLength.Statement .ld_L_C := rfl
theorem Sys2Proof.Laws.EncodedLength.ld_L_D : Sys2Proof.Laws.EncodedLength.Statement .ld_L_D := rfl
theorem Sys2Proof.Laws.EncodedLength.ld_L_E : Sys2Proof.Laws.EncodedLength.Statement .ld_L_E := rfl
theorem Sys2Proof.Laws.EncodedLength.ld_L_H : Sys2Proof.Laws.EncodedLength.Statement .ld_L_H := rfl
theorem Sys2Proof.Laws.EncodedLength.ld_L_L : Sys2Proof.Laws.EncodedLength.Statement .ld_L_L := rfl
theorem Sys2Proof.Laws.EncodedLength.ld_L_atHL : Sys2Proof.Laws.EncodedLength.Statement .ld_L_atHL := rfl
theorem Sys2Proof.Laws.EncodedLength.ld_L_A : Sys2Proof.Laws.EncodedLength.Statement .ld_L_A := rfl
theorem Sys2Proof.Laws.EncodedLength.ld_atHL_B : Sys2Proof.Laws.EncodedLength.Statement .ld_atHL_B := rfl
theorem Sys2Proof.Laws.EncodedLength.ld_atHL_C : Sys2Proof.Laws.EncodedLength.Statement .ld_atHL_C := rfl
theorem Sys2Proof.Laws.EncodedLength.ld_atHL_D : Sys2Proof.Laws.EncodedLength.Statement .ld_atHL_D := rfl
theorem Sys2Proof.Laws.EncodedLength.ld_atHL_E : Sys2Proof.Laws.EncodedLength.Statement .ld_atHL_E := rfl
theorem Sys2Proof.Laws.EncodedLength.ld_atHL_H : Sys2Proof.Laws.EncodedLength.Statement .ld_atHL_H := rfl
theorem Sys2Proof.Laws.EncodedLength.ld_atHL_L : Sys2Proof.Laws.EncodedLength.Statement .ld_atHL_L := rfl
theorem Sys2Proof.Laws.EncodedLength.halt : Sys2Proof.Laws.EncodedLength.Statement .halt := rfl
theorem Sys2Proof.Laws.EncodedLength.ld_atHL_A : Sys2Proof.Laws.EncodedLength.Statement .ld_atHL_A := rfl
theorem Sys2Proof.Laws.EncodedLength.ld_A_B : Sys2Proof.Laws.EncodedLength.Statement .ld_A_B := rfl
theorem Sys2Proof.Laws.EncodedLength.ld_A_C : Sys2Proof.Laws.EncodedLength.Statement .ld_A_C := rfl
theorem Sys2Proof.Laws.EncodedLength.ld_A_D : Sys2Proof.Laws.EncodedLength.Statement .ld_A_D := rfl
theorem Sys2Proof.Laws.EncodedLength.ld_A_E : Sys2Proof.Laws.EncodedLength.Statement .ld_A_E := rfl
theorem Sys2Proof.Laws.EncodedLength.ld_A_H : Sys2Proof.Laws.EncodedLength.Statement .ld_A_H := rfl
theorem Sys2Proof.Laws.EncodedLength.ld_A_L : Sys2Proof.Laws.EncodedLength.Statement .ld_A_L := rfl
theorem Sys2Proof.Laws.EncodedLength.ld_A_atHL : Sys2Proof.Laws.EncodedLength.Statement .ld_A_atHL := rfl
theorem Sys2Proof.Laws.EncodedLength.ld_A_A : Sys2Proof.Laws.EncodedLength.Statement .ld_A_A := rfl
theorem Sys2Proof.Laws.EncodedLength.add_A_B : Sys2Proof.Laws.EncodedLength.Statement .add_A_B := rfl
theorem Sys2Proof.Laws.EncodedLength.add_A_C : Sys2Proof.Laws.EncodedLength.Statement .add_A_C := rfl
theorem Sys2Proof.Laws.EncodedLength.add_A_D : Sys2Proof.Laws.EncodedLength.Statement .add_A_D := rfl
theorem Sys2Proof.Laws.EncodedLength.add_A_E : Sys2Proof.Laws.EncodedLength.Statement .add_A_E := rfl
theorem Sys2Proof.Laws.EncodedLength.add_A_H : Sys2Proof.Laws.EncodedLength.Statement .add_A_H := rfl
theorem Sys2Proof.Laws.EncodedLength.add_A_L : Sys2Proof.Laws.EncodedLength.Statement .add_A_L := rfl
theorem Sys2Proof.Laws.EncodedLength.add_A_atHL : Sys2Proof.Laws.EncodedLength.Statement .add_A_atHL := rfl
theorem Sys2Proof.Laws.EncodedLength.add_A_A : Sys2Proof.Laws.EncodedLength.Statement .add_A_A := rfl
theorem Sys2Proof.Laws.EncodedLength.adc_A_B : Sys2Proof.Laws.EncodedLength.Statement .adc_A_B := rfl
theorem Sys2Proof.Laws.EncodedLength.adc_A_C : Sys2Proof.Laws.EncodedLength.Statement .adc_A_C := rfl
theorem Sys2Proof.Laws.EncodedLength.adc_A_D : Sys2Proof.Laws.EncodedLength.Statement .adc_A_D := rfl
theorem Sys2Proof.Laws.EncodedLength.adc_A_E : Sys2Proof.Laws.EncodedLength.Statement .adc_A_E := rfl
theorem Sys2Proof.Laws.EncodedLength.adc_A_H : Sys2Proof.Laws.EncodedLength.Statement .adc_A_H := rfl
theorem Sys2Proof.Laws.EncodedLength.adc_A_L : Sys2Proof.Laws.EncodedLength.Statement .adc_A_L := rfl
theorem Sys2Proof.Laws.EncodedLength.adc_A_atHL : Sys2Proof.Laws.EncodedLength.Statement .adc_A_atHL := rfl
theorem Sys2Proof.Laws.EncodedLength.adc_A_A : Sys2Proof.Laws.EncodedLength.Statement .adc_A_A := rfl
theorem Sys2Proof.Laws.EncodedLength.sub_B : Sys2Proof.Laws.EncodedLength.Statement .sub_B := rfl
theorem Sys2Proof.Laws.EncodedLength.sub_C : Sys2Proof.Laws.EncodedLength.Statement .sub_C := rfl
theorem Sys2Proof.Laws.EncodedLength.sub_D : Sys2Proof.Laws.EncodedLength.Statement .sub_D := rfl
theorem Sys2Proof.Laws.EncodedLength.sub_E : Sys2Proof.Laws.EncodedLength.Statement .sub_E := rfl
theorem Sys2Proof.Laws.EncodedLength.sub_H : Sys2Proof.Laws.EncodedLength.Statement .sub_H := rfl
theorem Sys2Proof.Laws.EncodedLength.sub_L : Sys2Proof.Laws.EncodedLength.Statement .sub_L := rfl
theorem Sys2Proof.Laws.EncodedLength.sub_atHL : Sys2Proof.Laws.EncodedLength.Statement .sub_atHL := rfl
theorem Sys2Proof.Laws.EncodedLength.sub_A : Sys2Proof.Laws.EncodedLength.Statement .sub_A := rfl
theorem Sys2Proof.Laws.EncodedLength.sbc_A_B : Sys2Proof.Laws.EncodedLength.Statement .sbc_A_B := rfl
theorem Sys2Proof.Laws.EncodedLength.sbc_A_C : Sys2Proof.Laws.EncodedLength.Statement .sbc_A_C := rfl
theorem Sys2Proof.Laws.EncodedLength.sbc_A_D : Sys2Proof.Laws.EncodedLength.Statement .sbc_A_D := rfl
theorem Sys2Proof.Laws.EncodedLength.sbc_A_E : Sys2Proof.Laws.EncodedLength.Statement .sbc_A_E := rfl
theorem Sys2Proof.Laws.EncodedLength.sbc_A_H : Sys2Proof.Laws.EncodedLength.Statement .sbc_A_H := rfl
theorem Sys2Proof.Laws.EncodedLength.sbc_A_L : Sys2Proof.Laws.EncodedLength.Statement .sbc_A_L := rfl
theorem Sys2Proof.Laws.EncodedLength.sbc_A_atHL : Sys2Proof.Laws.EncodedLength.Statement .sbc_A_atHL := rfl
theorem Sys2Proof.Laws.EncodedLength.sbc_A_A : Sys2Proof.Laws.EncodedLength.Statement .sbc_A_A := rfl
theorem Sys2Proof.Laws.EncodedLength.and_B : Sys2Proof.Laws.EncodedLength.Statement .and_B := rfl
theorem Sys2Proof.Laws.EncodedLength.and_C : Sys2Proof.Laws.EncodedLength.Statement .and_C := rfl
theorem Sys2Proof.Laws.EncodedLength.and_D : Sys2Proof.Laws.EncodedLength.Statement .and_D := rfl
theorem Sys2Proof.Laws.EncodedLength.and_E : Sys2Proof.Laws.EncodedLength.Statement .and_E := rfl
theorem Sys2Proof.Laws.EncodedLength.and_H : Sys2Proof.Laws.EncodedLength.Statement .and_H := rfl
theorem Sys2Proof.Laws.EncodedLength.and_L : Sys2Proof.Laws.EncodedLength.Statement .and_L := rfl
theorem Sys2Proof.Laws.EncodedLength.and_atHL : Sys2Proof.Laws.EncodedLength.Statement .and_atHL := rfl
theorem Sys2Proof.Laws.EncodedLength.and_A : Sys2Proof.Laws.EncodedLength.Statement .and_A := rfl
theorem Sys2Proof.Laws.EncodedLength.xor_B : Sys2Proof.Laws.EncodedLength.Statement .xor_B := rfl
theorem Sys2Proof.Laws.EncodedLength.xor_C : Sys2Proof.Laws.EncodedLength.Statement .xor_C := rfl
theorem Sys2Proof.Laws.EncodedLength.xor_D : Sys2Proof.Laws.EncodedLength.Statement .xor_D := rfl
theorem Sys2Proof.Laws.EncodedLength.xor_E : Sys2Proof.Laws.EncodedLength.Statement .xor_E := rfl
theorem Sys2Proof.Laws.EncodedLength.xor_H : Sys2Proof.Laws.EncodedLength.Statement .xor_H := rfl
theorem Sys2Proof.Laws.EncodedLength.xor_L : Sys2Proof.Laws.EncodedLength.Statement .xor_L := rfl
theorem Sys2Proof.Laws.EncodedLength.xor_atHL : Sys2Proof.Laws.EncodedLength.Statement .xor_atHL := rfl
theorem Sys2Proof.Laws.EncodedLength.xor_A : Sys2Proof.Laws.EncodedLength.Statement .xor_A := rfl
theorem Sys2Proof.Laws.EncodedLength.or_B : Sys2Proof.Laws.EncodedLength.Statement .or_B := rfl
theorem Sys2Proof.Laws.EncodedLength.or_C : Sys2Proof.Laws.EncodedLength.Statement .or_C := rfl
theorem Sys2Proof.Laws.EncodedLength.or_D : Sys2Proof.Laws.EncodedLength.Statement .or_D := rfl
theorem Sys2Proof.Laws.EncodedLength.or_E : Sys2Proof.Laws.EncodedLength.Statement .or_E := rfl
theorem Sys2Proof.Laws.EncodedLength.or_H : Sys2Proof.Laws.EncodedLength.Statement .or_H := rfl
theorem Sys2Proof.Laws.EncodedLength.or_L : Sys2Proof.Laws.EncodedLength.Statement .or_L := rfl
theorem Sys2Proof.Laws.EncodedLength.or_atHL : Sys2Proof.Laws.EncodedLength.Statement .or_atHL := rfl
theorem Sys2Proof.Laws.EncodedLength.or_A : Sys2Proof.Laws.EncodedLength.Statement .or_A := rfl
theorem Sys2Proof.Laws.EncodedLength.cp_B : Sys2Proof.Laws.EncodedLength.Statement .cp_B := rfl
theorem Sys2Proof.Laws.EncodedLength.cp_C : Sys2Proof.Laws.EncodedLength.Statement .cp_C := rfl
theorem Sys2Proof.Laws.EncodedLength.cp_D : Sys2Proof.Laws.EncodedLength.Statement .cp_D := rfl
theorem Sys2Proof.Laws.EncodedLength.cp_E : Sys2Proof.Laws.EncodedLength.Statement .cp_E := rfl
theorem Sys2Proof.Laws.EncodedLength.cp_H : Sys2Proof.Laws.EncodedLength.Statement .cp_H := rfl
theorem Sys2Proof.Laws.EncodedLength.cp_L : Sys2Proof.Laws.EncodedLength.Statement .cp_L := rfl
theorem Sys2Proof.Laws.EncodedLength.cp_atHL : Sys2Proof.Laws.EncodedLength.Statement .cp_atHL := rfl
theorem Sys2Proof.Laws.EncodedLength.cp_A : Sys2Proof.Laws.EncodedLength.Statement .cp_A := rfl
theorem Sys2Proof.Laws.EncodedLength.ret_NZ : Sys2Proof.Laws.EncodedLength.Statement .ret_NZ := rfl
theorem Sys2Proof.Laws.EncodedLength.pop_BC : Sys2Proof.Laws.EncodedLength.Statement .pop_BC := rfl
theorem Sys2Proof.Laws.EncodedLength.jp_NZ_nn (nn : Sys2Proof.Word) : Sys2Proof.Laws.EncodedLength.Statement (.jp_NZ_nn nn) := rfl
theorem Sys2Proof.Laws.EncodedLength.jp_nn (nn : Sys2Proof.Word) : Sys2Proof.Laws.EncodedLength.Statement (.jp_nn nn) := rfl
theorem Sys2Proof.Laws.EncodedLength.call_NZ_nn (nn : Sys2Proof.Word) : Sys2Proof.Laws.EncodedLength.Statement (.call_NZ_nn nn) := rfl
theorem Sys2Proof.Laws.EncodedLength.push_BC : Sys2Proof.Laws.EncodedLength.Statement .push_BC := rfl
theorem Sys2Proof.Laws.EncodedLength.add_A_n (n : Sys2Proof.Byte) : Sys2Proof.Laws.EncodedLength.Statement (.add_A_n n) := rfl
theorem Sys2Proof.Laws.EncodedLength.rst_00 : Sys2Proof.Laws.EncodedLength.Statement .rst_00 := rfl
theorem Sys2Proof.Laws.EncodedLength.ret_Z : Sys2Proof.Laws.EncodedLength.Statement .ret_Z := rfl
theorem Sys2Proof.Laws.EncodedLength.ret : Sys2Proof.Laws.EncodedLength.Statement .ret := rfl
theorem Sys2Proof.Laws.EncodedLength.jp_Z_nn (nn : Sys2Proof.Word) : Sys2Proof.Laws.EncodedLength.Statement (.jp_Z_nn nn) := rfl
theorem Sys2Proof.Laws.EncodedLength.prefix_CB (op2 : Sys2Proof.Byte) : Sys2Proof.Laws.EncodedLength.Statement (.prefix_CB op2) := rfl
theorem Sys2Proof.Laws.EncodedLength.call_Z_nn (nn : Sys2Proof.Word) : Sys2Proof.Laws.EncodedLength.Statement (.call_Z_nn nn) := rfl
theorem Sys2Proof.Laws.EncodedLength.call_nn (nn : Sys2Proof.Word) : Sys2Proof.Laws.EncodedLength.Statement (.call_nn nn) := rfl
theorem Sys2Proof.Laws.EncodedLength.adc_A_n (n : Sys2Proof.Byte) : Sys2Proof.Laws.EncodedLength.Statement (.adc_A_n n) := rfl
theorem Sys2Proof.Laws.EncodedLength.rst_08 : Sys2Proof.Laws.EncodedLength.Statement .rst_08 := rfl
theorem Sys2Proof.Laws.EncodedLength.ret_NC : Sys2Proof.Laws.EncodedLength.Statement .ret_NC := rfl
theorem Sys2Proof.Laws.EncodedLength.pop_DE : Sys2Proof.Laws.EncodedLength.Statement .pop_DE := rfl
theorem Sys2Proof.Laws.EncodedLength.jp_NC_nn (nn : Sys2Proof.Word) : Sys2Proof.Laws.EncodedLength.Statement (.jp_NC_nn nn) := rfl
theorem Sys2Proof.Laws.EncodedLength.illegal_D3 : Sys2Proof.Laws.EncodedLength.Statement .illegal_D3 := rfl
theorem Sys2Proof.Laws.EncodedLength.call_NC_nn (nn : Sys2Proof.Word) : Sys2Proof.Laws.EncodedLength.Statement (.call_NC_nn nn) := rfl
theorem Sys2Proof.Laws.EncodedLength.push_DE : Sys2Proof.Laws.EncodedLength.Statement .push_DE := rfl
theorem Sys2Proof.Laws.EncodedLength.sub_n (n : Sys2Proof.Byte) : Sys2Proof.Laws.EncodedLength.Statement (.sub_n n) := rfl
theorem Sys2Proof.Laws.EncodedLength.rst_10 : Sys2Proof.Laws.EncodedLength.Statement .rst_10 := rfl
theorem Sys2Proof.Laws.EncodedLength.ret_C : Sys2Proof.Laws.EncodedLength.Statement .ret_C := rfl
theorem Sys2Proof.Laws.EncodedLength.reti : Sys2Proof.Laws.EncodedLength.Statement .reti := rfl
theorem Sys2Proof.Laws.EncodedLength.jp_C_nn (nn : Sys2Proof.Word) : Sys2Proof.Laws.EncodedLength.Statement (.jp_C_nn nn) := rfl
theorem Sys2Proof.Laws.EncodedLength.illegal_DB : Sys2Proof.Laws.EncodedLength.Statement .illegal_DB := rfl
theorem Sys2Proof.Laws.EncodedLength.call_C_nn (nn : Sys2Proof.Word) : Sys2Proof.Laws.EncodedLength.Statement (.call_C_nn nn) := rfl
theorem Sys2Proof.Laws.EncodedLength.illegal_DD : Sys2Proof.Laws.EncodedLength.Statement .illegal_DD := rfl
theorem Sys2Proof.Laws.EncodedLength.sbc_A_n (n : Sys2Proof.Byte) : Sys2Proof.Laws.EncodedLength.Statement (.sbc_A_n n) := rfl
theorem Sys2Proof.Laws.EncodedLength.rst_18 : Sys2Proof.Laws.EncodedLength.Statement .rst_18 := rfl
theorem Sys2Proof.Laws.EncodedLength.ldh_atn_A (n : Sys2Proof.Byte) : Sys2Proof.Laws.EncodedLength.Statement (.ldh_atn_A n) := rfl
theorem Sys2Proof.Laws.EncodedLength.pop_HL : Sys2Proof.Laws.EncodedLength.Statement .pop_HL := rfl
theorem Sys2Proof.Laws.EncodedLength.ldh_atC_A : Sys2Proof.Laws.EncodedLength.Statement .ldh_atC_A := rfl
theorem Sys2Proof.Laws.EncodedLength.illegal_E3 : Sys2Proof.Laws.EncodedLength.Statement .illegal_E3 := rfl
theorem Sys2Proof.Laws.EncodedLength.illegal_E4 : Sys2Proof.Laws.EncodedLength.Statement .illegal_E4 := rfl
theorem Sys2Proof.Laws.EncodedLength.push_HL : Sys2Proof.Laws.EncodedLength.Statement .push_HL := rfl
theorem Sys2Proof.Laws.EncodedLength.and_n (n : Sys2Proof.Byte) : Sys2Proof.Laws.EncodedLength.Statement (.and_n n) := rfl
theorem Sys2Proof.Laws.EncodedLength.rst_20 : Sys2Proof.Laws.EncodedLength.Statement .rst_20 := rfl
theorem Sys2Proof.Laws.EncodedLength.add_SP_e (e : Sys2Proof.Byte) : Sys2Proof.Laws.EncodedLength.Statement (.add_SP_e e) := rfl
theorem Sys2Proof.Laws.EncodedLength.jp_HL : Sys2Proof.Laws.EncodedLength.Statement .jp_HL := rfl
theorem Sys2Proof.Laws.EncodedLength.ld_atnn_A (nn : Sys2Proof.Word) : Sys2Proof.Laws.EncodedLength.Statement (.ld_atnn_A nn) := rfl
theorem Sys2Proof.Laws.EncodedLength.illegal_EB : Sys2Proof.Laws.EncodedLength.Statement .illegal_EB := rfl
theorem Sys2Proof.Laws.EncodedLength.illegal_EC : Sys2Proof.Laws.EncodedLength.Statement .illegal_EC := rfl
theorem Sys2Proof.Laws.EncodedLength.illegal_ED : Sys2Proof.Laws.EncodedLength.Statement .illegal_ED := rfl
theorem Sys2Proof.Laws.EncodedLength.xor_n (n : Sys2Proof.Byte) : Sys2Proof.Laws.EncodedLength.Statement (.xor_n n) := rfl
theorem Sys2Proof.Laws.EncodedLength.rst_28 : Sys2Proof.Laws.EncodedLength.Statement .rst_28 := rfl
theorem Sys2Proof.Laws.EncodedLength.ldh_A_atn (n : Sys2Proof.Byte) : Sys2Proof.Laws.EncodedLength.Statement (.ldh_A_atn n) := rfl
theorem Sys2Proof.Laws.EncodedLength.pop_AF : Sys2Proof.Laws.EncodedLength.Statement .pop_AF := rfl
theorem Sys2Proof.Laws.EncodedLength.ldh_A_atC : Sys2Proof.Laws.EncodedLength.Statement .ldh_A_atC := rfl
theorem Sys2Proof.Laws.EncodedLength.di : Sys2Proof.Laws.EncodedLength.Statement .di := rfl
theorem Sys2Proof.Laws.EncodedLength.illegal_F4 : Sys2Proof.Laws.EncodedLength.Statement .illegal_F4 := rfl
theorem Sys2Proof.Laws.EncodedLength.push_AF : Sys2Proof.Laws.EncodedLength.Statement .push_AF := rfl
theorem Sys2Proof.Laws.EncodedLength.or_n (n : Sys2Proof.Byte) : Sys2Proof.Laws.EncodedLength.Statement (.or_n n) := rfl
theorem Sys2Proof.Laws.EncodedLength.rst_30 : Sys2Proof.Laws.EncodedLength.Statement .rst_30 := rfl
theorem Sys2Proof.Laws.EncodedLength.ld_HL_SPe (e : Sys2Proof.Byte) : Sys2Proof.Laws.EncodedLength.Statement (.ld_HL_SPe e) := rfl
theorem Sys2Proof.Laws.EncodedLength.ld_SP_HL : Sys2Proof.Laws.EncodedLength.Statement .ld_SP_HL := rfl
theorem Sys2Proof.Laws.EncodedLength.ld_A_atnn (nn : Sys2Proof.Word) : Sys2Proof.Laws.EncodedLength.Statement (.ld_A_atnn nn) := rfl
theorem Sys2Proof.Laws.EncodedLength.ei : Sys2Proof.Laws.EncodedLength.Statement .ei := rfl
theorem Sys2Proof.Laws.EncodedLength.illegal_FC : Sys2Proof.Laws.EncodedLength.Statement .illegal_FC := rfl
theorem Sys2Proof.Laws.EncodedLength.illegal_FD : Sys2Proof.Laws.EncodedLength.Statement .illegal_FD := rfl
theorem Sys2Proof.Laws.EncodedLength.cp_n (n : Sys2Proof.Byte) : Sys2Proof.Laws.EncodedLength.Statement (.cp_n n) := rfl
theorem Sys2Proof.Laws.EncodedLength.rst_38 : Sys2Proof.Laws.EncodedLength.Statement .rst_38 := rfl
theorem Sys2Proof.Laws.EncodedLength.rlc_B : Sys2Proof.Laws.EncodedLength.Statement .rlc_B := rfl
theorem Sys2Proof.Laws.EncodedLength.rlc_C : Sys2Proof.Laws.EncodedLength.Statement .rlc_C := rfl
theorem Sys2Proof.Laws.EncodedLength.rlc_D : Sys2Proof.Laws.EncodedLength.Statement .rlc_D := rfl
theorem Sys2Proof.Laws.EncodedLength.rlc_E : Sys2Proof.Laws.EncodedLength.Statement .rlc_E := rfl
theorem Sys2Proof.Laws.EncodedLength.rlc_H : Sys2Proof.Laws.EncodedLength.Statement .rlc_H := rfl
theorem Sys2Proof.Laws.EncodedLength.rlc_L : Sys2Proof.Laws.EncodedLength.Statement .rlc_L := rfl
theorem Sys2Proof.Laws.EncodedLength.rlc_atHL : Sys2Proof.Laws.EncodedLength.Statement .rlc_atHL := rfl
theorem Sys2Proof.Laws.EncodedLength.rlc_A : Sys2Proof.Laws.EncodedLength.Statement .rlc_A := rfl
theorem Sys2Proof.Laws.EncodedLength.rrc_B : Sys2Proof.Laws.EncodedLength.Statement .rrc_B := rfl
theorem Sys2Proof.Laws.EncodedLength.rrc_C : Sys2Proof.Laws.EncodedLength.Statement .rrc_C := rfl
theorem Sys2Proof.Laws.EncodedLength.rrc_D : Sys2Proof.Laws.EncodedLength.Statement .rrc_D := rfl
theorem Sys2Proof.Laws.EncodedLength.rrc_E : Sys2Proof.Laws.EncodedLength.Statement .rrc_E := rfl
theorem Sys2Proof.Laws.EncodedLength.rrc_H : Sys2Proof.Laws.EncodedLength.Statement .rrc_H := rfl
theorem Sys2Proof.Laws.EncodedLength.rrc_L : Sys2Proof.Laws.EncodedLength.Statement .rrc_L := rfl
theorem Sys2Proof.Laws.EncodedLength.rrc_atHL : Sys2Proof.Laws.EncodedLength.Statement .rrc_atHL := rfl
theorem Sys2Proof.Laws.EncodedLength.rrc_A : Sys2Proof.Laws.EncodedLength.Statement .rrc_A := rfl
theorem Sys2Proof.Laws.EncodedLength.rl_B : Sys2Proof.Laws.EncodedLength.Statement .rl_B := rfl
theorem Sys2Proof.Laws.EncodedLength.rl_C : Sys2Proof.Laws.EncodedLength.Statement .rl_C := rfl
theorem Sys2Proof.Laws.EncodedLength.rl_D : Sys2Proof.Laws.EncodedLength.Statement .rl_D := rfl
theorem Sys2Proof.Laws.EncodedLength.rl_E : Sys2Proof.Laws.EncodedLength.Statement .rl_E := rfl
theorem Sys2Proof.Laws.EncodedLength.rl_H : Sys2Proof.Laws.EncodedLength.Statement .rl_H := rfl
theorem Sys2Proof.Laws.EncodedLength.rl_L : Sys2Proof.Laws.EncodedLength.Statement .rl_L := rfl
theorem Sys2Proof.Laws.EncodedLength.rl_atHL : Sys2Proof.Laws.EncodedLength.Statement .rl_atHL := rfl
theorem Sys2Proof.Laws.EncodedLength.rl_A : Sys2Proof.Laws.EncodedLength.Statement .rl_A := rfl
theorem Sys2Proof.Laws.EncodedLength.rr_B : Sys2Proof.Laws.EncodedLength.Statement .rr_B := rfl
theorem Sys2Proof.Laws.EncodedLength.rr_C : Sys2Proof.Laws.EncodedLength.Statement .rr_C := rfl
theorem Sys2Proof.Laws.EncodedLength.rr_D : Sys2Proof.Laws.EncodedLength.Statement .rr_D := rfl
theorem Sys2Proof.Laws.EncodedLength.rr_E : Sys2Proof.Laws.EncodedLength.Statement .rr_E := rfl
theorem Sys2Proof.Laws.EncodedLength.rr_H : Sys2Proof.Laws.EncodedLength.Statement .rr_H := rfl
theorem Sys2Proof.Laws.EncodedLength.rr_L : Sys2Proof.Laws.EncodedLength.Statement .rr_L := rfl
theorem Sys2Proof.Laws.EncodedLength.rr_atHL : Sys2Proof.Laws.EncodedLength.Statement .rr_atHL := rfl
theorem Sys2Proof.Laws.EncodedLength.rr_A : Sys2Proof.Laws.EncodedLength.Statement .rr_A := rfl
theorem Sys2Proof.Laws.EncodedLength.sla_B : Sys2Proof.Laws.EncodedLength.Statement .sla_B := rfl
theorem Sys2Proof.Laws.EncodedLength.sla_C : Sys2Proof.Laws.EncodedLength.Statement .sla_C := rfl
theorem Sys2Proof.Laws.EncodedLength.sla_D : Sys2Proof.Laws.EncodedLength.Statement .sla_D := rfl
theorem Sys2Proof.Laws.EncodedLength.sla_E : Sys2Proof.Laws.EncodedLength.Statement .sla_E := rfl
theorem Sys2Proof.Laws.EncodedLength.sla_H : Sys2Proof.Laws.EncodedLength.Statement .sla_H := rfl
theorem Sys2Proof.Laws.EncodedLength.sla_L : Sys2Proof.Laws.EncodedLength.Statement .sla_L := rfl
theorem Sys2Proof.Laws.EncodedLength.sla_atHL : Sys2Proof.Laws.EncodedLength.Statement .sla_atHL := rfl
theorem Sys2Proof.Laws.EncodedLength.sla_A : Sys2Proof.Laws.EncodedLength.Statement .sla_A := rfl
theorem Sys2Proof.Laws.EncodedLength.sra_B : Sys2Proof.Laws.EncodedLength.Statement .sra_B := rfl
theorem Sys2Proof.Laws.EncodedLength.sra_C : Sys2Proof.Laws.EncodedLength.Statement .sra_C := rfl
theorem Sys2Proof.Laws.EncodedLength.sra_D : Sys2Proof.Laws.EncodedLength.Statement .sra_D := rfl
theorem Sys2Proof.Laws.EncodedLength.sra_E : Sys2Proof.Laws.EncodedLength.Statement .sra_E := rfl
theorem Sys2Proof.Laws.EncodedLength.sra_H : Sys2Proof.Laws.EncodedLength.Statement .sra_H := rfl
theorem Sys2Proof.Laws.EncodedLength.sra_L : Sys2Proof.Laws.EncodedLength.Statement .sra_L := rfl
theorem Sys2Proof.Laws.EncodedLength.sra_atHL : Sys2Proof.Laws.EncodedLength.Statement .sra_atHL := rfl
theorem Sys2Proof.Laws.EncodedLength.sra_A : Sys2Proof.Laws.EncodedLength.Statement .sra_A := rfl
theorem Sys2Proof.Laws.EncodedLength.swap_B : Sys2Proof.Laws.EncodedLength.Statement .swap_B := rfl
theorem Sys2Proof.Laws.EncodedLength.swap_C : Sys2Proof.Laws.EncodedLength.Statement .swap_C := rfl
theorem Sys2Proof.Laws.EncodedLength.swap_D : Sys2Proof.Laws.EncodedLength.Statement .swap_D := rfl
theorem Sys2Proof.Laws.EncodedLength.swap_E : Sys2Proof.Laws.EncodedLength.Statement .swap_E := rfl
theorem Sys2Proof.Laws.EncodedLength.swap_H : Sys2Proof.Laws.EncodedLength.Statement .swap_H := rfl
theorem Sys2Proof.Laws.EncodedLength.swap_L : Sys2Proof.Laws.EncodedLength.Statement .swap_L := rfl
theorem Sys2Proof.Laws.EncodedLength.swap_atHL : Sys2Proof.Laws.EncodedLength.Statement .swap_atHL := rfl
theorem Sys2Proof.Laws.EncodedLength.swap_A : Sys2Proof.Laws.EncodedLength.Statement .swap_A := rfl
theorem Sys2Proof.Laws.EncodedLength.srl_B : Sys2Proof.Laws.EncodedLength.Statement .srl_B := rfl
theorem Sys2Proof.Laws.EncodedLength.srl_C : Sys2Proof.Laws.EncodedLength.Statement .srl_C := rfl
theorem Sys2Proof.Laws.EncodedLength.srl_D : Sys2Proof.Laws.EncodedLength.Statement .srl_D := rfl
theorem Sys2Proof.Laws.EncodedLength.srl_E : Sys2Proof.Laws.EncodedLength.Statement .srl_E := rfl
theorem Sys2Proof.Laws.EncodedLength.srl_H : Sys2Proof.Laws.EncodedLength.Statement .srl_H := rfl
theorem Sys2Proof.Laws.EncodedLength.srl_L : Sys2Proof.Laws.EncodedLength.Statement .srl_L := rfl
theorem Sys2Proof.Laws.EncodedLength.srl_atHL : Sys2Proof.Laws.EncodedLength.Statement .srl_atHL := rfl
theorem Sys2Proof.Laws.EncodedLength.srl_A : Sys2Proof.Laws.EncodedLength.Statement .srl_A := rfl
theorem Sys2Proof.Laws.EncodedLength.bit_0_B : Sys2Proof.Laws.EncodedLength.Statement .bit_0_B := rfl
theorem Sys2Proof.Laws.EncodedLength.bit_0_C : Sys2Proof.Laws.EncodedLength.Statement .bit_0_C := rfl
theorem Sys2Proof.Laws.EncodedLength.bit_0_D : Sys2Proof.Laws.EncodedLength.Statement .bit_0_D := rfl
theorem Sys2Proof.Laws.EncodedLength.bit_0_E : Sys2Proof.Laws.EncodedLength.Statement .bit_0_E := rfl
theorem Sys2Proof.Laws.EncodedLength.bit_0_H : Sys2Proof.Laws.EncodedLength.Statement .bit_0_H := rfl
theorem Sys2Proof.Laws.EncodedLength.bit_0_L : Sys2Proof.Laws.EncodedLength.Statement .bit_0_L := rfl
theorem Sys2Proof.Laws.EncodedLength.bit_0_atHL : Sys2Proof.Laws.EncodedLength.Statement .bit_0_atHL := rfl
theorem Sys2Proof.Laws.EncodedLength.bit_0_A : Sys2Proof.Laws.EncodedLength.Statement .bit_0_A := rfl
theorem Sys2Proof.Laws.EncodedLength.bit_1_B : Sys2Proof.Laws.EncodedLength.Statement .bit_1_B := rfl
theorem Sys2Proof.Laws.EncodedLength.bit_1_C : Sys2Proof.Laws.EncodedLength.Statement .bit_1_C := rfl
theorem Sys2Proof.Laws.EncodedLength.bit_1_D : Sys2Proof.Laws.EncodedLength.Statement .bit_1_D := rfl
theorem Sys2Proof.Laws.EncodedLength.bit_1_E : Sys2Proof.Laws.EncodedLength.Statement .bit_1_E := rfl
theorem Sys2Proof.Laws.EncodedLength.bit_1_H : Sys2Proof.Laws.EncodedLength.Statement .bit_1_H := rfl
theorem Sys2Proof.Laws.EncodedLength.bit_1_L : Sys2Proof.Laws.EncodedLength.Statement .bit_1_L := rfl
theorem Sys2Proof.Laws.EncodedLength.bit_1_atHL : Sys2Proof.Laws.EncodedLength.Statement .bit_1_atHL := rfl
theorem Sys2Proof.Laws.EncodedLength.bit_1_A : Sys2Proof.Laws.EncodedLength.Statement .bit_1_A := rfl
theorem Sys2Proof.Laws.EncodedLength.bit_2_B : Sys2Proof.Laws.EncodedLength.Statement .bit_2_B := rfl
theorem Sys2Proof.Laws.EncodedLength.bit_2_C : Sys2Proof.Laws.EncodedLength.Statement .bit_2_C := rfl
theorem Sys2Proof.Laws.EncodedLength.bit_2_D : Sys2Proof.Laws.EncodedLength.Statement .bit_2_D := rfl
theorem Sys2Proof.Laws.EncodedLength.bit_2_E : Sys2Proof.Laws.EncodedLength.Statement .bit_2_E := rfl
theorem Sys2Proof.Laws.EncodedLength.bit_2_H : Sys2Proof.Laws.EncodedLength.Statement .bit_2_H := rfl
theorem Sys2Proof.Laws.EncodedLength.bit_2_L : Sys2Proof.Laws.EncodedLength.Statement .bit_2_L := rfl
theorem Sys2Proof.Laws.EncodedLength.bit_2_atHL : Sys2Proof.Laws.EncodedLength.Statement .bit_2_atHL := rfl
theorem Sys2Proof.Laws.EncodedLength.bit_2_A : Sys2Proof.Laws.EncodedLength.Statement .bit_2_A := rfl
theorem Sys2Proof.Laws.EncodedLength.bit_3_B : Sys2Proof.Laws.EncodedLength.Statement .bit_3_B := rfl
theorem Sys2Proof.Laws.EncodedLength.bit_3_C : Sys2Proof.Laws.EncodedLength.Statement .bit_3_C := rfl
theorem Sys2Proof.Laws.EncodedLength.bit_3_D : Sys2Proof.Laws.EncodedLength.Statement .bit_3_D := rfl
theorem Sys2Proof.Laws.EncodedLength.bit_3_E : Sys2Proof.Laws.EncodedLength.Statement .bit_3_E := rfl
theorem Sys2Proof.Laws.EncodedLength.bit_3_H : Sys2Proof.Laws.EncodedLength.Statement .bit_3_H := rfl
theorem Sys2Proof.Laws.EncodedLength.bit_3_L : Sys2Proof.Laws.EncodedLength.Statement .bit_3_L := rfl
theorem Sys2Proof.Laws.EncodedLength.bit_3_atHL : Sys2Proof.Laws.EncodedLength.Statement .bit_3_atHL := rfl
theorem Sys2Proof.Laws.EncodedLength.bit_3_A : Sys2Proof.Laws.EncodedLength.Statement .bit_3_A := rfl
theorem Sys2Proof.Laws.EncodedLength.bit_4_B : Sys2Proof.Laws.EncodedLength.Statement .bit_4_B := rfl
theorem Sys2Proof.Laws.EncodedLength.bit_4_C : Sys2Proof.Laws.EncodedLength.Statement .bit_4_C := rfl
theorem Sys2Proof.Laws.EncodedLength.bit_4_D : Sys2Proof.Laws.EncodedLength.Statement .bit_4_D := rfl
theorem Sys2Proof.Laws.EncodedLength.bit_4_E : Sys2Proof.Laws.EncodedLength.Statement .bit_4_E := rfl
theorem Sys2Proof.Laws.EncodedLength.bit_4_H : Sys2Proof.Laws.EncodedLength.Statement .bit_4_H := rfl
theorem Sys2Proof.Laws.EncodedLength.bit_4_L : Sys2Proof.Laws.EncodedLength.Statement .bit_4_L := rfl
theorem Sys2Proof.Laws.EncodedLength.bit_4_atHL : Sys2Proof.Laws.EncodedLength.Statement .bit_4_atHL := rfl
theorem Sys2Proof.Laws.EncodedLength.bit_4_A : Sys2Proof.Laws.EncodedLength.Statement .bit_4_A := rfl
theorem Sys2Proof.Laws.EncodedLength.bit_5_B : Sys2Proof.Laws.EncodedLength.Statement .bit_5_B := rfl
theorem Sys2Proof.Laws.EncodedLength.bit_5_C : Sys2Proof.Laws.EncodedLength.Statement .bit_5_C := rfl
theorem Sys2Proof.Laws.EncodedLength.bit_5_D : Sys2Proof.Laws.EncodedLength.Statement .bit_5_D := rfl
theorem Sys2Proof.Laws.EncodedLength.bit_5_E : Sys2Proof.Laws.EncodedLength.Statement .bit_5_E := rfl
theorem Sys2Proof.Laws.EncodedLength.bit_5_H : Sys2Proof.Laws.EncodedLength.Statement .bit_5_H := rfl
theorem Sys2Proof.Laws.EncodedLength.bit_5_L : Sys2Proof.Laws.EncodedLength.Statement .bit_5_L := rfl
theorem Sys2Proof.Laws.EncodedLength.bit_5_atHL : Sys2Proof.Laws.EncodedLength.Statement .bit_5_atHL := rfl
theorem Sys2Proof.Laws.EncodedLength.bit_5_A : Sys2Proof.Laws.EncodedLength.Statement .bit_5_A := rfl
theorem Sys2Proof.Laws.EncodedLength.bit_6_B : Sys2Proof.Laws.EncodedLength.Statement .bit_6_B := rfl
theorem Sys2Proof.Laws.EncodedLength.bit_6_C : Sys2Proof.Laws.EncodedLength.Statement .bit_6_C := rfl
theorem Sys2Proof.Laws.EncodedLength.bit_6_D : Sys2Proof.Laws.EncodedLength.Statement .bit_6_D := rfl
theorem Sys2Proof.Laws.EncodedLength.bit_6_E : Sys2Proof.Laws.EncodedLength.Statement .bit_6_E := rfl
theorem Sys2Proof.Laws.EncodedLength.bit_6_H : Sys2Proof.Laws.EncodedLength.Statement .bit_6_H := rfl
theorem Sys2Proof.Laws.EncodedLength.bit_6_L : Sys2Proof.Laws.EncodedLength.Statement .bit_6_L := rfl
theorem Sys2Proof.Laws.EncodedLength.bit_6_atHL : Sys2Proof.Laws.EncodedLength.Statement .bit_6_atHL := rfl
theorem Sys2Proof.Laws.EncodedLength.bit_6_A : Sys2Proof.Laws.EncodedLength.Statement .bit_6_A := rfl
theorem Sys2Proof.Laws.EncodedLength.bit_7_B : Sys2Proof.Laws.EncodedLength.Statement .bit_7_B := rfl
theorem Sys2Proof.Laws.EncodedLength.bit_7_C : Sys2Proof.Laws.EncodedLength.Statement .bit_7_C := rfl
theorem Sys2Proof.Laws.EncodedLength.bit_7_D : Sys2Proof.Laws.EncodedLength.Statement .bit_7_D := rfl
theorem Sys2Proof.Laws.EncodedLength.bit_7_E : Sys2Proof.Laws.EncodedLength.Statement .bit_7_E := rfl
theorem Sys2Proof.Laws.EncodedLength.bit_7_H : Sys2Proof.Laws.EncodedLength.Statement .bit_7_H := rfl
theorem Sys2Proof.Laws.EncodedLength.bit_7_L : Sys2Proof.Laws.EncodedLength.Statement .bit_7_L := rfl
theorem Sys2Proof.Laws.EncodedLength.bit_7_atHL : Sys2Proof.Laws.EncodedLength.Statement .bit_7_atHL := rfl
theorem Sys2Proof.Laws.EncodedLength.bit_7_A : Sys2Proof.Laws.EncodedLength.Statement .bit_7_A := rfl
theorem Sys2Proof.Laws.EncodedLength.res_0_B : Sys2Proof.Laws.EncodedLength.Statement .res_0_B := rfl
theorem Sys2Proof.Laws.EncodedLength.res_0_C : Sys2Proof.Laws.EncodedLength.Statement .res_0_C := rfl
theorem Sys2Proof.Laws.EncodedLength.res_0_D : Sys2Proof.Laws.EncodedLength.Statement .res_0_D := rfl
theorem Sys2Proof.Laws.EncodedLength.res_0_E : Sys2Proof.Laws.EncodedLength.Statement .res_0_E := rfl
theorem Sys2Proof.Laws.EncodedLength.res_0_H : Sys2Proof.Laws.EncodedLength.Statement .res_0_H := rfl
theorem Sys2Proof.Laws.EncodedLength.res_0_L : Sys2Proof.Laws.EncodedLength.Statement .res_0_L := rfl
theorem Sys2Proof.Laws.EncodedLength.res_0_atHL : Sys2Proof.Laws.EncodedLength.Statement .res_0_atHL := rfl
theorem Sys2Proof.Laws.EncodedLength.res_0_A : Sys2Proof.Laws.EncodedLength.Statement .res_0_A := rfl
theorem Sys2Proof.Laws.EncodedLength.res_1_B : Sys2Proof.Laws.EncodedLength.Statement .res_1_B := rfl
theorem Sys2Proof.Laws.EncodedLength.res_1_C : Sys2Proof.Laws.EncodedLength.Statement .res_1_C := rfl
theorem Sys2Proof.Laws.EncodedLength.res_1_D : Sys2Proof.Laws.EncodedLength.Statement .res_1_D := rfl
theorem Sys2Proof.Laws.EncodedLength.res_1_E : Sys2Proof.Laws.EncodedLength.Statement .res_1_E := rfl
theorem Sys2Proof.Laws.EncodedLength.res_1_H : Sys2Proof.Laws.EncodedLength.Statement .res_1_H := rfl
theorem Sys2Proof.Laws.EncodedLength.res_1_L : Sys2Proof.Laws.EncodedLength.Statement .res_1_L := rfl
theorem Sys2Proof.Laws.EncodedLength.res_1_atHL : Sys2Proof.Laws.EncodedLength.Statement .res_1_atHL := rfl
theorem Sys2Proof.Laws.EncodedLength.res_1_A : Sys2Proof.Laws.EncodedLength.Statement .res_1_A := rfl
theorem Sys2Proof.Laws.EncodedLength.res_2_B : Sys2Proof.Laws.EncodedLength.Statement .res_2_B := rfl
theorem Sys2Proof.Laws.EncodedLength.res_2_C : Sys2Proof.Laws.EncodedLength.Statement .res_2_C := rfl
theorem Sys2Proof.Laws.EncodedLength.res_2_D : Sys2Proof.Laws.EncodedLength.Statement .res_2_D := rfl
theorem Sys2Proof.Laws.EncodedLength.res_2_E : Sys2Proof.Laws.EncodedLength.Statement .res_2_E := rfl
theorem Sys2Proof.Laws.EncodedLength.res_2_H : Sys2Proof.Laws.EncodedLength.Statement .res_2_H := rfl
theorem Sys2Proof.Laws.EncodedLength.res_2_L : Sys2Proof.Laws.EncodedLength.Statement .res_2_L := rfl
theorem Sys2Proof.Laws.EncodedLength.res_2_atHL : Sys2Proof.Laws.EncodedLength.Statement .res_2_atHL := rfl
theorem Sys2Proof.Laws.EncodedLength.res_2_A : Sys2Proof.Laws.EncodedLength.Statement .res_2_A := rfl
theorem Sys2Proof.Laws.EncodedLength.res_3_B : Sys2Proof.Laws.EncodedLength.Statement .res_3_B := rfl
theorem Sys2Proof.Laws.EncodedLength.res_3_C : Sys2Proof.Laws.EncodedLength.Statement .res_3_C := rfl
theorem Sys2Proof.Laws.EncodedLength.res_3_D : Sys2Proof.Laws.EncodedLength.Statement .res_3_D := rfl
theorem Sys2Proof.Laws.EncodedLength.res_3_E : Sys2Proof.Laws.EncodedLength.Statement .res_3_E := rfl
theorem Sys2Proof.Laws.EncodedLength.res_3_H : Sys2Proof.Laws.EncodedLength.Statement .res_3_H := rfl
theorem Sys2Proof.Laws.EncodedLength.res_3_L : Sys2Proof.Laws.EncodedLength.Statement .res_3_L := rfl
theorem Sys2Proof.Laws.EncodedLength.res_3_atHL : Sys2Proof.Laws.EncodedLength.Statement .res_3_atHL := rfl
theorem Sys2Proof.Laws.EncodedLength.res_3_A : Sys2Proof.Laws.EncodedLength.Statement .res_3_A := rfl
theorem Sys2Proof.Laws.EncodedLength.res_4_B : Sys2Proof.Laws.EncodedLength.Statement .res_4_B := rfl
theorem Sys2Proof.Laws.EncodedLength.res_4_C : Sys2Proof.Laws.EncodedLength.Statement .res_4_C := rfl
theorem Sys2Proof.Laws.EncodedLength.res_4_D : Sys2Proof.Laws.EncodedLength.Statement .res_4_D := rfl
theorem Sys2Proof.Laws.EncodedLength.res_4_E : Sys2Proof.Laws.EncodedLength.Statement .res_4_E := rfl
theorem Sys2Proof.Laws.EncodedLength.res_4_H : Sys2Proof.Laws.EncodedLength.Statement .res_4_H := rfl
theorem Sys2Proof.Laws.EncodedLength.res_4_L : Sys2Proof.Laws.EncodedLength.Statement .res_4_L := rfl
theorem Sys2Proof.Laws.EncodedLength.res_4_atHL : Sys2Proof.Laws.EncodedLength.Statement .res_4_atHL := rfl
theorem Sys2Proof.Laws.EncodedLength.res_4_A : Sys2Proof.Laws.EncodedLength.Statement .res_4_A := rfl
theorem Sys2Proof.Laws.EncodedLength.res_5_B : Sys2Proof.Laws.EncodedLength.Statement .res_5_B := rfl
theorem Sys2Proof.Laws.EncodedLength.res_5_C : Sys2Proof.Laws.EncodedLength.Statement .res_5_C := rfl
theorem Sys2Proof.Laws.EncodedLength.res_5_D : Sys2Proof.Laws.EncodedLength.Statement .res_5_D := rfl
theorem Sys2Proof.Laws.EncodedLength.res_5_E : Sys2Proof.Laws.EncodedLength.Statement .res_5_E := rfl
theorem Sys2Proof.Laws.EncodedLength.res_5_H : Sys2Proof.Laws.EncodedLength.Statement .res_5_H := rfl
theorem Sys2Proof.Laws.EncodedLength.res_5_L : Sys2Proof.Laws.EncodedLength.Statement .res_5_L := rfl
theorem Sys2Proof.Laws.EncodedLength.res_5_atHL : Sys2Proof.Laws.EncodedLength.Statement .res_5_atHL := rfl
theorem Sys2Proof.Laws.EncodedLength.res_5_A : Sys2Proof.Laws.EncodedLength.Statement .res_5_A := rfl
theorem Sys2Proof.Laws.EncodedLength.res_6_B : Sys2Proof.Laws.EncodedLength.Statement .res_6_B := rfl
theorem Sys2Proof.Laws.EncodedLength.res_6_C : Sys2Proof.Laws.EncodedLength.Statement .res_6_C := rfl
theorem Sys2Proof.Laws.EncodedLength.res_6_D : Sys2Proof.Laws.EncodedLength.Statement .res_6_D := rfl
theorem Sys2Proof.Laws.EncodedLength.res_6_E : Sys2Proof.Laws.EncodedLength.Statement .res_6_E := rfl
theorem Sys2Proof.Laws.EncodedLength.res_6_H : Sys2Proof.Laws.EncodedLength.Statement .res_6_H := rfl
theorem Sys2Proof.Laws.EncodedLength.res_6_L : Sys2Proof.Laws.EncodedLength.Statement .res_6_L := rfl
theorem Sys2Proof.Laws.EncodedLength.res_6_atHL : Sys2Proof.Laws.EncodedLength.Statement .res_6_atHL := rfl
theorem Sys2Proof.Laws.EncodedLength.res_6_A : Sys2Proof.Laws.EncodedLength.Statement .res_6_A := rfl
theorem Sys2Proof.Laws.EncodedLength.res_7_B : Sys2Proof.Laws.EncodedLength.Statement .res_7_B := rfl
theorem Sys2Proof.Laws.EncodedLength.res_7_C : Sys2Proof.Laws.EncodedLength.Statement .res_7_C := rfl
theorem Sys2Proof.Laws.EncodedLength.res_7_D : Sys2Proof.Laws.EncodedLength.Statement .res_7_D := rfl
theorem Sys2Proof.Laws.EncodedLength.res_7_E : Sys2Proof.Laws.EncodedLength.Statement .res_7_E := rfl
theorem Sys2Proof.Laws.EncodedLength.res_7_H : Sys2Proof.Laws.EncodedLength.Statement .res_7_H := rfl
theorem Sys2Proof.Laws.EncodedLength.res_7_L : Sys2Proof.Laws.EncodedLength.Statement .res_7_L := rfl
theorem Sys2Proof.Laws.EncodedLength.res_7_atHL : Sys2Proof.Laws.EncodedLength.Statement .res_7_atHL := rfl
theorem Sys2Proof.Laws.EncodedLength.res_7_A : Sys2Proof.Laws.EncodedLength.Statement .res_7_A := rfl
theorem Sys2Proof.Laws.EncodedLength.set_0_B : Sys2Proof.Laws.EncodedLength.Statement .set_0_B := rfl
theorem Sys2Proof.Laws.EncodedLength.set_0_C : Sys2Proof.Laws.EncodedLength.Statement .set_0_C := rfl
theorem Sys2Proof.Laws.EncodedLength.set_0_D : Sys2Proof.Laws.EncodedLength.Statement .set_0_D := rfl
theorem Sys2Proof.Laws.EncodedLength.set_0_E : Sys2Proof.Laws.EncodedLength.Statement .set_0_E := rfl
theorem Sys2Proof.Laws.EncodedLength.set_0_H : Sys2Proof.Laws.EncodedLength.Statement .set_0_H := rfl
theorem Sys2Proof.Laws.EncodedLength.set_0_L : Sys2Proof.Laws.EncodedLength.Statement .set_0_L := rfl
theorem Sys2Proof.Laws.EncodedLength.set_0_atHL : Sys2Proof.Laws.EncodedLength.Statement .set_0_atHL := rfl
theorem Sys2Proof.Laws.EncodedLength.set_0_A : Sys2Proof.Laws.EncodedLength.Statement .set_0_A := rfl
theorem Sys2Proof.Laws.EncodedLength.set_1_B : Sys2Proof.Laws.EncodedLength.Statement .set_1_B := rfl
theorem Sys2Proof.Laws.EncodedLength.set_1_C : Sys2Proof.Laws.EncodedLength.Statement .set_1_C := rfl
theorem Sys2Proof.Laws.EncodedLength.set_1_D : Sys2Proof.Laws.EncodedLength.Statement .set_1_D := rfl
theorem Sys2Proof.Laws.EncodedLength.set_1_E : Sys2Proof.Laws.EncodedLength.Statement .set_1_E := rfl
theorem Sys2Proof.Laws.EncodedLength.set_1_H : Sys2Proof.Laws.EncodedLength.Statement .set_1_H := rfl
theorem Sys2Proof.Laws.EncodedLength.set_1_L : Sys2Proof.Laws.EncodedLength.Statement .set_1_L := rfl
theorem Sys2Proof.Laws.EncodedLength.set_1_atHL : Sys2Proof.Laws.EncodedLength.Statement .set_1_atHL := rfl
theorem Sys2Proof.Laws.EncodedLength.set_1_A : Sys2Proof.Laws.EncodedLength.Statement .set_1_A := rfl
theorem Sys2Proof.Laws.EncodedLength.set_2_B : Sys2Proof.Laws.EncodedLength.Statement .set_2_B := rfl
theorem Sys2Proof.Laws.EncodedLength.set_2_C : Sys2Proof.Laws.EncodedLength.Statement .set_2_C := rfl
theorem Sys2Proof.Laws.EncodedLength.set_2_D : Sys2Proof.Laws.EncodedLength.Statement .set_2_D := rfl
theorem Sys2Proof.Laws.EncodedLength.set_2_E : Sys2Proof.Laws.EncodedLength.Statement .set_2_E := rfl
theorem Sys2Proof.Laws.EncodedLength.set_2_H : Sys2Proof.Laws.EncodedLength.Statement .set_2_H := rfl
theorem Sys2Proof.Laws.EncodedLength.set_2_L : Sys2Proof.Laws.EncodedLength.Statement .set_2_L := rfl
theorem Sys2Proof.Laws.EncodedLength.set_2_atHL : Sys2Proof.Laws.EncodedLength.Statement .set_2_atHL := rfl
theorem Sys2Proof.Laws.EncodedLength.set_2_A : Sys2Proof.Laws.EncodedLength.Statement .set_2_A := rfl
theorem Sys2Proof.Laws.EncodedLength.set_3_B : Sys2Proof.Laws.EncodedLength.Statement .set_3_B := rfl
theorem Sys2Proof.Laws.EncodedLength.set_3_C : Sys2Proof.Laws.EncodedLength.Statement .set_3_C := rfl
theorem Sys2Proof.Laws.EncodedLength.set_3_D : Sys2Proof.Laws.EncodedLength.Statement .set_3_D := rfl
theorem Sys2Proof.Laws.EncodedLength.set_3_E : Sys2Proof.Laws.EncodedLength.Statement .set_3_E := rfl
theorem Sys2Proof.Laws.EncodedLength.set_3_H : Sys2Proof.Laws.EncodedLength.Statement .set_3_H := rfl
theorem Sys2Proof.Laws.EncodedLength.set_3_L : Sys2Proof.Laws.EncodedLength.Statement .set_3_L := rfl
theorem Sys2Proof.Laws.EncodedLength.set_3_atHL : Sys2Proof.Laws.EncodedLength.Statement .set_3_atHL := rfl
theorem Sys2Proof.Laws.EncodedLength.set_3_A : Sys2Proof.Laws.EncodedLength.Statement .set_3_A := rfl
theorem Sys2Proof.Laws.EncodedLength.set_4_B : Sys2Proof.Laws.EncodedLength.Statement .set_4_B := rfl
theorem Sys2Proof.Laws.EncodedLength.set_4_C : Sys2Proof.Laws.EncodedLength.Statement .set_4_C := rfl
theorem Sys2Proof.Laws.EncodedLength.set_4_D : Sys2Proof.Laws.EncodedLength.Statement .set_4_D := rfl
theorem Sys2Proof.Laws.EncodedLength.set_4_E : Sys2Proof.Laws.EncodedLength.Statement .set_4_E := rfl
theorem Sys2Proof.Laws.EncodedLength.set_4_H : Sys2Proof.Laws.EncodedLength.Statement .set_4_H := rfl
theorem Sys2Proof.Laws.EncodedLength.set_4_L : Sys2Proof.Laws.EncodedLength.Statement .set_4_L := rfl
theorem Sys2Proof.Laws.EncodedLength.set_4_atHL : Sys2Proof.Laws.EncodedLength.Statement .set_4_atHL := rfl
theorem Sys2Proof.Laws.EncodedLength.set_4_A : Sys2Proof.Laws.EncodedLength.Statement .set_4_A := rfl
theorem Sys2Proof.Laws.EncodedLength.set_5_B : Sys2Proof.Laws.EncodedLength.Statement .set_5_B := rfl
theorem Sys2Proof.Laws.EncodedLength.set_5_C : Sys2Proof.Laws.EncodedLength.Statement .set_5_C := rfl
theorem Sys2Proof.Laws.EncodedLength.set_5_D : Sys2Proof.Laws.EncodedLength.Statement .set_5_D := rfl
theorem Sys2Proof.Laws.EncodedLength.set_5_E : Sys2Proof.Laws.EncodedLength.Statement .set_5_E := rfl
theorem Sys2Proof.Laws.EncodedLength.set_5_H : Sys2Proof.Laws.EncodedLength.Statement .set_5_H := rfl
theorem Sys2Proof.Laws.EncodedLength.set_5_L : Sys2Proof.Laws.EncodedLength.Statement .set_5_L := rfl
theorem Sys2Proof.Laws.EncodedLength.set_5_atHL : Sys2Proof.Laws.EncodedLength.Statement .set_5_atHL := rfl
theorem Sys2Proof.Laws.EncodedLength.set_5_A : Sys2Proof.Laws.EncodedLength.Statement .set_5_A := rfl
theorem Sys2Proof.Laws.EncodedLength.set_6_B : Sys2Proof.Laws.EncodedLength.Statement .set_6_B := rfl
theorem Sys2Proof.Laws.EncodedLength.set_6_C : Sys2Proof.Laws.EncodedLength.Statement .set_6_C := rfl
theorem Sys2Proof.Laws.EncodedLength.set_6_D : Sys2Proof.Laws.EncodedLength.Statement .set_6_D := rfl
theorem Sys2Proof.Laws.EncodedLength.set_6_E : Sys2Proof.Laws.EncodedLength.Statement .set_6_E := rfl
theorem Sys2Proof.Laws.EncodedLength.set_6_H : Sys2Proof.Laws.EncodedLength.Statement .set_6_H := rfl
theorem Sys2Proof.Laws.EncodedLength.set_6_L : Sys2Proof.Laws.EncodedLength.Statement .set_6_L := rfl
theorem Sys2Proof.Laws.EncodedLength.set_6_atHL : Sys2Proof.Laws.EncodedLength.Statement .set_6_atHL := rfl
theorem Sys2Proof.Laws.EncodedLength.set_6_A : Sys2Proof.Laws.EncodedLength.Statement .set_6_A := rfl
theorem Sys2Proof.Laws.EncodedLength.set_7_B : Sys2Proof.Laws.EncodedLength.Statement .set_7_B := rfl
theorem Sys2Proof.Laws.EncodedLength.set_7_C : Sys2Proof.Laws.EncodedLength.Statement .set_7_C := rfl
theorem Sys2Proof.Laws.EncodedLength.set_7_D : Sys2Proof.Laws.EncodedLength.Statement .set_7_D := rfl
theorem Sys2Proof.Laws.EncodedLength.set_7_E : Sys2Proof.Laws.EncodedLength.Statement .set_7_E := rfl
theorem Sys2Proof.Laws.EncodedLength.set_7_H : Sys2Proof.Laws.EncodedLength.Statement .set_7_H := rfl
theorem Sys2Proof.Laws.EncodedLength.set_7_L : Sys2Proof.Laws.EncodedLength.Statement .set_7_L := rfl
theorem Sys2Proof.Laws.EncodedLength.set_7_atHL : Sys2Proof.Laws.EncodedLength.Statement .set_7_atHL := rfl
theorem Sys2Proof.Laws.EncodedLength.set_7_A : Sys2Proof.Laws.EncodedLength.Statement .set_7_A := rfl
end

