-- ==== Sys2Proof/Laws/Reset.lean ====
section
/-!
SUPPORT. `State.reset` is what the reset procedure of 70_reset_and_hazards.md R532 gives for the arguments log 1 names.
-/

namespace Sys2Proof.Machine

/-- The arguments of `State.reset`: no boot image, 0x8000 cartridge bytes of 00, nothing listed in any memory, default parameters, nothing
pressed (log 1, log 2). -/
def ResetArgs.blank : ResetArgs :=
  { boot := none, cart := { length := 0x8000, bytes := [] }, ram := RamInit.blank, params := Params.default, lines := 0 }

theorem resetWith_blank : resetWith ResetArgs.blank = .next State.reset := rfl

/-- Every array of `State.reset` is in canonical form. -/
theorem reset_memories_wf :
    State.reset.wram.wf = true ∧ State.reset.hram.wf = true ∧ State.reset.snd.wf = true ∧ State.reset.cart.rom.wf = true ∧
      State.reset.cart.xram.wf = true ∧ State.reset.ppu.vram.wf = true := by decide

end Sys2Proof.Machine
end

