-- ==== Sys2Proof/Laws/Step.lean ====
section
/-!
SUPPORT. What a step can do, said once: its phases, the instruction it runs, and what the devices change.
-/

namespace Sys2Proof.Machine

theorem step_of_fault {s : State} {r : FaultRecord} (h : s.fault = some r) : step s = .fault (.terminal r) := by
  simp [step, coordinatorStep, h]

/-- A step that has a successor runs the halted step or one instruction after resolution, then the devices. -/
theorem step_next_cases {s t : State} (h : step s = .next t) :
    s.fault = none ∧ ∃ u, cpuStep (resolve s).1 = .next u ∧ t = finish (resolve s).2 u := by
  unfold step coordinatorStep at h
  split at h
  · cases h
  · rename_i hf
    refine ⟨hf, ?_⟩
    dsimp only at h
    split at h
    · rename_i u hu
      exact ⟨u, hu, (Host.Outcome.next.inj h).symm⟩
    · cases h
    · cases h

theorem cpuStep_halted {s : State} (h : s.cpu.halted = true) : cpuStep s = .next { s with cycles := s.params.haltCycles } := by
  simp [cpuStep, h, done]

theorem cpuStep_running {s : State} (h : s.cpu.halted = false) :
    cpuStep s = exec (fetchInstr (applyPendingEnable s)) (skipInstr (applyPendingEnable s)) := by
  simp [cpuStep, h]

theorem opLength_le (op : Byte) : 1 ≤ opLength op ∧ opLength op ≤ 3 := by
  unfold opLength
  repeat' split
  all_goals omega

/-- Three bytes always decode, to what the opcode and the two bytes after it stand for. -/
theorem decode_three (op b1 b2 : Byte) :
    decode [op, b1, b2] = .ok (decodeBytes op b1 b2, [b1, b2].drop (opLength op - 1)) := by
  have h := opLength_le op
  have hn : ¬(3 < opLength op) := by omega
  simp [decode, hn]

theorem resolve_idle {s : State} (h : s.ifl &&& s.ie = 0) : resolve s = (s, 0) := by
  simp [resolve, h, leastPending]

theorem finish_of_fault {s : State} {r : FaultRecord} (ci : Nat) (h : s.fault = some r) : finish ci s = s := by
  simp [finish, h]

theorem finish_running {s : State} (ci : Nat) (h : s.fault = none) :
    finish ci s = { ppuPhase (ci + s.cycles) (timerPhase (ci + s.cycles) s) with cycles := ci + s.cycles } := by
  simp [finish, h]

/-- The end of a step touches the timer, the pixel unit, IF and the returned number only. -/
theorem finish_effect (ci : Nat) (s : State) :
    ∃ timer ppu ifl cycles, finish ci s = { s with timer := timer, ppu := ppu, ifl := ifl, cycles := cycles } := by
  by_cases h : s.fault = none
  · exact ⟨_, _, _, _, (finish_running ci h).trans rfl⟩
  · obtain ⟨r, hr⟩ := Option.ne_none_iff_exists'.mp h
    exact ⟨s.timer, s.ppu, s.ifl, s.cycles, finish_of_fault ci hr⟩

/-! The timer. -/

theorem timaTick_tima (t : Timer) : (timaTick t).1 = { t with tima := (timaTick t).1.tima } := by
  unfold timaTick; split <;> rfl

/-- One cycle moves the divider by one and may change TIMA; nothing else. -/
theorem timerCycle_effect (t : Timer) : ∃ tima, (timerCycle t).1 = { t with div := t.div + 1, tima := tima } := by
  unfold timerCycle
  dsimp only
  split
  · exact ⟨_, timaTick_tima _⟩
  · exact ⟨t.tima, rfl⟩

theorem timerStep_effect (n : Nat) (t : Timer) :
    ∃ tima, (timerStep n t).1 = { t with div := t.div + BitVec.ofNat 16 n, tima := tima } := by
  induction n generalizing t with
  | zero => exact ⟨t.tima, by simp [timerStep]⟩
  | succ n ih =>
    obtain ⟨x, hx⟩ := timerCycle_effect t
    obtain ⟨y, hy⟩ := ih (timerCycle t).1
    refine ⟨y, ?_⟩
    have hdiv : t.div + 1 + BitVec.ofNat 16 n = t.div + BitVec.ofNat 16 (n + 1) := by
      apply BitVec.eq_of_toNat_eq
      simp [BitVec.toNat_add]
      omega
    simp only [timerStep]
    rw [hy, hx]
    exact congrArg (fun d => ({ t with div := d, tima := y } : Timer)) hdiv

/-- Stepping the timer by a sum is stepping it twice. -/
theorem timerStep_add (m n : Nat) (t : Timer) :
    timerStep (m + n) t = ((timerStep n (timerStep m t).1).1, (timerStep m t).2 || (timerStep n (timerStep m t).1).2) := by
  induction m generalizing t with
  | zero => simp [timerStep]
  | succ m ih =>
    rw [Nat.succ_add]
    simp only [timerStep, ih]
    simp [Bool.or_assoc]

/-! The pixel unit. -/

theorem renderScanline_effect (p : Ppu) : ∃ frame, renderScanline p = { p with frame := frame } := by
  unfold renderScanline
  split
  · exact ⟨_, rfl⟩
  · exact ⟨p.frame, rfl⟩

theorem ppuExpire_effect (p : Ppu) :
    ∃ mode ly frame, (ppuExpire p).1 = { p with mode := mode, ly := ly, frame := frame } := by
  unfold ppuExpire
  split
  · exact ⟨_, p.ly, p.frame, rfl⟩
  · obtain ⟨f, hf⟩ := renderScanline_effect p
    exact ⟨_, p.ly, f, by rw [hf]⟩
  · split
    · exact ⟨_, _, p.frame, rfl⟩
    · exact ⟨_, _, p.frame, rfl⟩
  · split
    · exact ⟨_, _, p.frame, rfl⟩
    · exact ⟨p.mode, _, p.frame, rfl⟩

theorem ppuLoop_effect (k : Nat) (p : Ppu) :
    ∃ mode clock ly frame, (ppuLoop k p).1 = { p with mode := mode, modeClock := clock, ly := ly, frame := frame } := by
  induction k generalizing p with
  | zero => exact ⟨p.mode, p.modeClock, p.ly, p.frame, rfl⟩
  | succ k ih =>
    unfold ppuLoop
    split
    · exact ⟨p.mode, p.modeClock, p.ly, p.frame, rfl⟩
    · obtain ⟨m, l, f, h⟩ := ppuExpire_effect { p with modeClock := p.modeClock - p.mode.duration }
      obtain ⟨m', c', l', f', h'⟩ := ih (ppuExpire { p with modeClock := p.modeClock - p.mode.duration }).1
      exact ⟨m', c', l', f', by dsimp only; rw [h', h]⟩

/-- A step of the pixel unit touches MODE, MODE_CLOCK, LY, STAT_LINE and FRAME only. -/
theorem ppuStep_effect (n : Nat) (p : Ppu) :
    ∃ mode clock ly line frame,
      (ppuStep n p).1 = { p with mode := mode, modeClock := clock, ly := ly, statLine := line, frame := frame } := by
  unfold ppuStep
  split
  · obtain ⟨m, c, l, f, h⟩ := ppuLoop_effect (p.modeClock + n) { p with modeClock := p.modeClock + n }
    exact ⟨m, c, l, _, f, by dsimp only [updateStatLine, ppuAdvance]; rw [h]⟩
  · exact ⟨p.mode, p.modeClock, p.ly, _, p.frame, rfl⟩

end Sys2Proof.Machine
end

