-- ==== Sys2Proof/Tests/Slice0.lean ====
section
/-!
SUPPORT. The model's own tests. Every expected value comes from spec/: the vectors of 95_test_vectors.md under their ids (L1, W1, …), the
encodings of 30_encoding.md and of the instruction rules, and the numbered rules named. The last part shows, for every statement of
Certificates/Slice0/Obligations.lean that has hypotheses, a state and operands that meet them.
-/

namespace Sys2Proof.Tests

open Sys2Proof Sys2Proof.Machine

/-! Helpers. -/

/-- The common start state of 95_test_vectors.md section 2. -/
def start : State :=
  { State.reset with
    cpu := { a := 0, b := 0, c := 0, d := 0, e := 0, h := 0, l := 0, f := unpackF 0, sp := 0xDFF0, pc := 0xC000
             ime := false, imePending := false, halted := false }
    ifl := 0, ie := 0
    ppu := { State.reset.ppu with lcdc := 0, mode := .hblank } }

/-- `start` with its processor changed. -/
def cpuAs (f : Cpu → Cpu) : State := { start with cpu := f start.cpu }

/-- Bytes placed from `a` on. -/
def place (a : Word) : List Byte → State → State
  | [], s => s
  | v :: rest, s => loadByte a v (place (a + 1) rest s)

/-- `p` of the next state of `o`. -/
def after (o : Out) (p : State → Bool) : Bool :=
  match o with
  | .next t => p t
  | _ => false

/-- One step from `s` with the bytes `code` at PC. -/
def run (code : List Byte) (s : State) (p : State → Bool) : Bool := after (step (place s.cpu.pc code s)) p

/-! Well-formedness: the one check refuses the row of the prefix byte alone (46_system.md R376). -/

theorem test_wf_refuses_prefix_row : (Instr.prefix_CB 0x37).wf = false := by decide
theorem test_wf_accepts_extended : Instr.swap_A.wf = true := by decide

/-! Decoding: words written out from the fields of 30_encoding.md and the rules' encoding lines. -/

theorem test_decode_ld_r_r : decode [0b01_111_010] = .ok (.ld_A_D, []) := by rfl
theorem test_decode_ld_r_n : decode [0b00_101_110, 0xFE] = .ok (.ld_L_n 0xFE, []) := by rfl
theorem test_decode_ld_at_hl : decode [0b01_110_011] = .ok (.ld_atHL_E, []) := by rfl
theorem test_decode_halt_not_load : decode [0b01_110_110] = .ok (.halt, []) := by rfl
theorem test_decode_ldh : decode [0xE0, 0x80, 0x55] = .ok (.ldh_atn_A 0x80, [0x55]) := by rfl
theorem test_decode_ld_rr_nn : decode [0b00_10_0001, 0x34, 0x12] = .ok (.ld_HL_nn 0x1234, []) := by rfl
theorem test_decode_push_af : decode [0b11_11_0101] = .ok (.push_AF, []) := by rfl
theorem test_decode_alu_r : decode [0b10_011_100] = .ok (.sbc_A_H, []) := by rfl
theorem test_decode_alu_n : decode [0b11_101_110, 0x0F] = .ok (.xor_n 0x0F, []) := by rfl
theorem test_decode_dec_r : decode [0b00_001_101] = .ok (.dec_C, []) := by rfl
theorem test_decode_add_hl : decode [0b00_11_1001] = .ok (.add_HL_SP, []) := by rfl
theorem test_decode_dec_rr : decode [0b00_01_1011] = .ok (.dec_DE, []) := by rfl
theorem test_decode_sra : decode [0xCB, 0b00_101_110] = .ok (.sra_atHL, []) := by rfl
theorem test_decode_bit : decode [0xCB, 0b01_100_101] = .ok (.bit_4_L, []) := by rfl
theorem test_decode_res : decode [0xCB, 0b10_111_111] = .ok (.res_7_A, []) := by rfl
theorem test_decode_set : decode [0xCB, 0b11_011_011] = .ok (.set_3_E, []) := by rfl
theorem test_decode_jp_cc : decode [0b110_11_010, 0x00, 0xD0] = .ok (.jp_C_nn 0xD000, []) := by rfl
theorem test_decode_jr_cc : decode [0b001_10_000, 0xFB] = .ok (.jr_NC_e 0xFB, []) := by rfl
theorem test_decode_rst : decode [0b11_101_111] = .ok (.rst_28, []) := by rfl
theorem test_decode_stop_takes_padding : decode [0x10, 0x77, 0x00] = .ok (.stop 0x77, [0x00]) := by rfl
theorem test_decode_illegal : decode [0xFC, 0x00] = .ok (.illegal_FC, [0x00]) := by rfl
theorem test_decode_truncated : decode [0xC3, 0x50] = .error (.truncated 0xC3) := by rfl
theorem test_table_word : decodeTableWord 24 0xFFFE31 = some (.ld_SP_nn 0xFFFE) := by rfl
theorem test_table_word_extended : decodeTableWord 16 0x37CB = some .swap_A := by rfl
theorem test_table_word_operand_zero : decodeTableWord 8 0xC3 = some (.jp_nn 0) := by rfl

theorem test_fetch_word_after_reset :
    after (step (State.reset.withFetchWord 16 0x7F3E)) (fun t => decide (t.cpu.a = 0x7F ∧ t.cpu.pc = 0x0102 ∧ t.cycles = 8)) = true := by
  decide

/-! 8-bit loads: 95_test_vectors.md section 2.1. -/

theorem test_L4_ld_h_from_hl :
    run [0x66] (place 0xC100 [0x12] (cpuAs fun c => { c with h := 0xC1 })) (fun t =>
      decide (t.cpu.h = 0x12 ∧ t.cpu.l = 0 ∧ t.cpu.pc = 0xC001 ∧ t.cycles = 8)) = true := by decide

theorem test_L8_ld_a_hlinc_reads_ie_and_wraps :
    run [0x2A] (cpuAs fun c => { c with h := 0xFF, l := 0xFF }) (fun t =>
      decide (t.cpu.a = 0xE0 ∧ t.cpu.h = 0 ∧ t.cpu.l = 0 ∧ t.cycles = 8)) = true := by decide

theorem test_L9_ld_hldec_a_rom_ignored :
    run [0x32] (cpuAs fun c => { c with a := 0x42 }) (fun t =>
      decide (t.cpu.h = 0xFF ∧ t.cpu.l = 0xFF ∧ read8 0 t = 0 ∧ t.cycles = 8)) = true := by decide

theorem test_L13_ldh_a_reads_if :
    run [0xF0, 0x0F] { start with ifl := 0b00101 } (fun t => decide (t.cpu.a = 0xE5 ∧ t.cpu.pc = 0xC002 ∧ t.cycles = 12)) = true := by
  decide

theorem test_L17_ld_a_nn_through_echo :
    run [0xFA, 0x00, 0xE1] (place 0xC100 [0x66] start) (fun t => decide (t.cpu.a = 0x66 ∧ t.cpu.pc = 0xC003 ∧ t.cycles = 16)) = true := by
  decide

/-! 16-bit loads and the stack: section 2.2. -/

theorem test_W4_ld_nn_sp_across_the_top :
    run [0x08, 0xFF, 0xFF] (cpuAs fun c => { c with sp := 0x1203 }) (fun t =>
      decide (t.ie = 3 ∧ read8 0xFFFF t = 0xE3 ∧ read8 0 t = 0 ∧ t.cycles = 20)) = true := by decide

theorem test_W8_pop_af_drops_low_nibble :
    run [0xF1] (place 0xC100 [0xFF, 0x12] (cpuAs fun c => { c with sp := 0xC100 })) (fun t =>
      decide (t.cpu.a = 0x12 ∧ packF t.cpu.f = 0xF0 ∧ t.cpu.sp = 0xC102 ∧ t.cycles = 12)) = true := by decide

theorem test_W10_push_hl_at_zero :
    run [0xE5] (cpuAs fun c => { c with h := 0x12, l := 0x34, sp := 0 }) (fun t =>
      decide (t.cpu.sp = 0xFFFE ∧ t.ie = 0x12 ∧ read8 0xFFFF t = 0xF2 ∧ read8 0xFFFE t = 0x34 ∧ t.cycles = 16)) = true := by decide

theorem test_W14_ld_hl_sp_e_carries :
    run [0xF8, 0x08] (cpuAs fun c => { c with sp := 0xFFF8 }) (fun t =>
      decide (packF t.cpu.f = 0x30 ∧ t.cpu.h = 0 ∧ t.cpu.l = 0 ∧ t.cpu.sp = 0xFFF8 ∧ t.cycles = 12)) = true := by decide

theorem test_W15_ld_hl_sp_e_negative :
    run [0xF8, 0x80] (cpuAs fun c => { c with sp := 0x0080 }) (fun t =>
      decide (packF t.cpu.f = 0x10 ∧ t.cpu.h = 0 ∧ t.cpu.l = 0)) = true := by decide

/-! 8-bit arithmetic and logic: section 2.3. -/

theorem test_A1_add_carries :
    run [0x80] (cpuAs fun c => { c with a := 0x3A, b := 0xC6 }) (fun t =>
      decide (t.cpu.a = 0 ∧ packF t.cpu.f = 0xB0 ∧ t.cycles = 4)) = true := by decide

theorem test_A8_adc_carry_in_to_both :
    run [0x8B] (cpuAs fun c => { c with a := 0x7F, e := 0x80, f := unpackF 0x10 }) (fun t =>
      decide (t.cpu.a = 0 ∧ packF t.cpu.f = 0xB0)) = true := by decide

theorem test_A11_sub_at_hl_borrow :
    run [0x96] (place 0xC100 [0x40] (cpuAs fun c => { c with a := 0x3E, h := 0xC1 })) (fun t =>
      decide (t.cpu.a = 0xFE ∧ packF t.cpu.f = 0x50 ∧ t.cycles = 8)) = true := by decide

theorem test_A13_sbc_full_borrow :
    run [0xDE, 0xFF] (cpuAs fun c => { c with f := unpackF 0x10 }) (fun t =>
      decide (t.cpu.a = 0 ∧ packF t.cpu.f = 0xF0 ∧ t.cycles = 8)) = true := by decide

theorem test_A16_and_n :
    run [0xE6, 0x0F] (cpuAs fun c => { c with a := 0xF0 }) (fun t => decide (t.cpu.a = 0 ∧ packF t.cpu.f = 0xA0)) = true := by decide

theorem test_A17_xor_a :
    run [0xAF] (cpuAs fun c => { c with a := 0xFF, f := unpackF 0xF0 }) (fun t =>
      decide (t.cpu.a = 0 ∧ packF t.cpu.f = 0x80)) = true := by decide

theorem test_A20_or_a_clears_carry :
    run [0xB7] (cpuAs fun c => { c with f := unpackF 0xF0 }) (fun t => decide (packF t.cpu.f = 0x80)) = true := by decide

theorem test_A23_cp_keeps_a :
    run [0xBE] (place 0xC100 [0x40] (cpuAs fun c => { c with a := 0x3C, h := 0xC1 })) (fun t =>
      decide (t.cpu.a = 0x3C ∧ packF t.cpu.f = 0x50)) = true := by decide

theorem test_A24_inc_keeps_carry :
    run [0x04] (cpuAs fun c => { c with b := 0xFF, f := unpackF 0x10 }) (fun t =>
      decide (t.cpu.b = 0 ∧ packF t.cpu.f = 0xB0)) = true := by decide

theorem test_A29_dec_at_hl :
    run [0x35] (place 0xC100 [0x10] (cpuAs fun c => { c with h := 0xC1 })) (fun t =>
      decide (read8 0xC100 t = 0x0F ∧ packF t.cpu.f = 0x60 ∧ t.cycles = 12)) = true := by decide

theorem test_A31_daa_after_addition :
    run [0x27] (cpuAs fun c => { c with a := 0x9A }) (fun t => decide (t.cpu.a = 0 ∧ packF t.cpu.f = 0x90)) = true := by decide

theorem test_A33_daa_after_subtraction :
    run [0x27] (cpuAs fun c => { c with a := 0x4B, f := unpackF 0x60 }) (fun t =>
      decide (t.cpu.a = 0x45 ∧ packF t.cpu.f = 0x40)) = true := by decide

theorem test_A38_ccf :
    run [0x3F] (cpuAs fun c => { c with f := unpackF 0xF0 }) (fun t => decide (packF t.cpu.f = 0x80)) = true := by decide

/-! 16-bit arithmetic: section 2.4. -/

theorem test_X2_add_hl_keeps_z :
    run [0x19] (cpuAs fun c => { c with h := 0xFF, l := 0xFF, e := 0x01, f := unpackF 0x40 }) (fun t =>
      decide (t.cpu.h = 0 ∧ t.cpu.l = 0 ∧ packF t.cpu.f = 0x30 ∧ t.cycles = 8)) = true := by decide

theorem test_X6_dec_sp_wraps :
    run [0x3B] (cpuAs fun c => { c with sp := 0 }) (fun t => decide (t.cpu.sp = 0xFFFF ∧ packF t.cpu.f = 0)) = true := by decide

theorem test_X12_add_sp_negative_carries :
    run [0xE8, 0xFE] (cpuAs fun c => { c with sp := 0xD002 }) (fun t =>
      decide (t.cpu.sp = 0xD000 ∧ packF t.cpu.f = 0x30 ∧ t.cycles = 16)) = true := by decide

/-! Rotates, shifts and bits: section 2.5. -/

theorem test_R2_rlca_clears_z :
    run [0x07] (cpuAs fun c => { c with f := unpackF 0x80 }) (fun t => decide (t.cpu.a = 0 ∧ packF t.cpu.f = 0)) = true := by decide

theorem test_R6_rra_through_carry :
    run [0x1F] (cpuAs fun c => { c with a := 0x01, f := unpackF 0x10 }) (fun t =>
      decide (t.cpu.a = 0x80 ∧ packF t.cpu.f = 0x10)) = true := by decide

theorem test_R12_rl_at_hl :
    run [0xCB, 0x16] (place 0xC100 [0x11] (cpuAs fun c => { c with h := 0xC1, f := unpackF 0x10 })) (fun t =>
      decide (read8 0xC100 t = 0x23 ∧ packF t.cpu.f = 0 ∧ t.cpu.pc = 0xC002 ∧ t.cycles = 16)) = true := by decide

theorem test_R17_sra_keeps_sign :
    run [0xCB, 0x2F] (cpuAs fun c => { c with a := 0x81 }) (fun t => decide (t.cpu.a = 0xC0 ∧ packF t.cpu.f = 0x10)) = true := by decide

theorem test_R21_swap :
    run [0xCB, 0x37] (cpuAs fun c => { c with a := 0xF1, f := unpackF 0xF0 }) (fun t =>
      decide (t.cpu.a = 0x1F ∧ packF t.cpu.f = 0)) = true := by decide

theorem test_R25_bit_at_hl :
    run [0xCB, 0x46] (place 0xC100 [0xFE] (cpuAs fun c => { c with h := 0xC1 })) (fun t =>
      decide (packF t.cpu.f = 0xA0 ∧ t.cycles = 12)) = true := by decide

theorem test_R27_res_at_hl :
    run [0xCB, 0xBE] (place 0xC100 [0xFF] (cpuAs fun c => { c with h := 0xC1 })) (fun t =>
      decide (read8 0xC100 t = 0x7F ∧ t.cycles = 16)) = true := by decide

theorem test_R29_set :
    run [0xCB, 0xDB] start (fun t => decide (t.cpu.e = 0x08 ∧ packF t.cpu.f = 0 ∧ t.cycles = 8)) = true := by decide

/-! Control transfer: section 2.6. -/

theorem test_C2_jp_nz_not_taken :
    run [0xC2, 0x00, 0xD0] (cpuAs fun c => { c with f := unpackF 0x80 }) (fun t =>
      decide (t.cpu.pc = 0xC003 ∧ t.cycles = 12)) = true := by decide

theorem test_C8_jr_backward : run [0x18, 0x80] start (fun t => decide (t.cpu.pc = 0xBF82 ∧ t.cycles = 12)) = true := by decide

theorem test_C9_jr_wraps :
    run [0x18, 0x10] (cpuAs fun c => { c with pc := 0xFFF0 }) (fun t => decide (t.cpu.pc = 0x0002)) = true := by decide

theorem test_C13_call :
    run [0xCD, 0x34, 0x12] (cpuAs fun c => { c with sp := 0xD000 }) (fun t =>
      decide (t.cpu.pc = 0x1234 ∧ t.cpu.sp = 0xCFFE ∧ read8 0xCFFF t = 0xC0 ∧ read8 0xCFFE t = 0x03 ∧ t.cycles = 24)) = true := by decide

theorem test_C18_ret_c_taken :
    run [0xD8] (place 0xC100 [0x03, 0xC0] (cpuAs fun c => { c with sp := 0xC100, f := unpackF 0x10 })) (fun t =>
      decide (t.cpu.pc = 0xC003 ∧ t.cpu.sp = 0xC102 ∧ t.cycles = 20)) = true := by decide

theorem test_C20_reti_cancels_pending :
    run [0xD9] (place 0xC100 [0x03, 0xC0] (cpuAs fun c => { c with sp := 0xC100, imePending := true })) (fun t =>
      decide (t.cpu.pc = 0xC003 ∧ t.cpu.ime = true ∧ t.cpu.imePending = false ∧ t.cycles = 16)) = true := by decide

theorem test_C23_rst_into_ie :
    run [0xFF] (cpuAs fun c => { c with sp := 0x0001 }) (fun t =>
      decide (t.cpu.sp = 0xFFFF ∧ t.cpu.pc = 0x0038 ∧ t.ie = 1 ∧ read8 0 t = 0 ∧ t.cycles = 16)) = true := by decide

/-! Processor control, interrupts, faults: section 2.7. -/

theorem test_Y1_nop_feeds_the_timer :
    run [0x00] start (fun t => decide (t.cpu.pc = 0xC001 ∧ t.timer.div = 0xABD0 ∧ t.cycles = 4)) = true := by decide

/-- Step 2 of Y4: the instruction after EI runs before any service. -/
theorem test_Y4_enable_delay :
    run [0x00] { cpuAs fun c => { c with imePending := true, sp := 0xD000 } with ifl := 1, ie := 1 } (fun t =>
      decide (t.cpu.ime = true ∧ t.cpu.imePending = false ∧ t.ifl = 1 ∧ t.cpu.pc = 0xC001 ∧ t.cycles = 4)) = true := by decide

theorem test_Y6_illegal_opcode :
    run [0xDD] { start with timer := { start.timer with div := 0x1000 } } (fun t =>
      decide (t.fault = some { kind := .illegalOpcode, address := 0xC000, value := 0xDD } ∧ t.cpu.pc = 0xC001 ∧
        t.timer.div = 0x1000)) = true := by decide

theorem test_Y7_stop_refused : step (place 0xC000 [0x10, 0x00] start) = .refused .stopUnspecified := by rfl

theorem test_Y8_service_priority :
    run [0x00] { cpuAs fun c => { c with ime := true, sp := 0xD000 } with ifl := 3, ie := 3 } (fun t =>
      decide (t.ifl = 2 ∧ t.cpu.ime = false ∧ t.cpu.sp = 0xCFFE ∧ read8 0xCFFF t = 0xC0 ∧ read8 0xCFFE t = 0x00 ∧
        t.cpu.pc = 0x0041 ∧ t.cycles = 24)) = true := by decide

/-- Step 5 of Y9: HALT ends with IME clear, no service, the flag stays. -/
theorem test_Y9_halt_woken_without_service :
    run [0x3C] { cpuAs fun c => { c with halted := true } with ifl := 4, ie := 4 } (fun t =>
      decide (t.cpu.halted = false ∧ t.cpu.a = 1 ∧ t.ifl = 4 ∧ t.cpu.pc = 0xC001 ∧ t.cycles = 4)) = true := by decide

theorem test_Y11_service_before_illegal :
    run [0xDD] { cpuAs fun c => { c with ime := true, sp := 0xD000 } with ifl := 0x10, ie := 0x10 } (fun t =>
      decide (t.fault = none ∧ t.ifl = 0 ∧ t.cpu.pc = 0x0061 ∧ t.cycles = 24)) = true := by decide

theorem test_Y14_enabled_sources_only :
    run [0x00] { cpuAs fun c => { c with ime := true, sp := 0xD000 } with ifl := 0x1F, ie := 0x1C } (fun t =>
      decide (t.ifl = 0x1B ∧ t.cpu.pc = 0x0051)) = true := by decide

theorem test_Y16_set_7_a : run [0xCB, 0xFF] start (fun t => decide (t.cpu.a = 0x80 ∧ t.cpu.pc = 0xC002 ∧ t.cycles = 8)) = true := by decide

/-! The memory map: section 2.8. -/

/-- `start` in MODE `m`, the display on. -/
def inMode (m : PpuMode) : State := { start with ppu := { start.ppu with lcdc := 0x91, mode := m } }

theorem test_M2_echo : read8 0xDDFF (write8 0xFDFF 0xA5 start) = 0xA5 := by decide
theorem test_M5_vram_gate : read8 0x8000 (inMode .transfer) = 0xFF ∧ write8 0x8000 0x22 (inMode .transfer) = inMode .transfer := by decide
theorem test_M6_oam_flag_byte : read8 0xFE03 (write8 0xFE03 0xFF start) = 0xF0 := by decide
theorem test_M6_oam_gate : read8 0xFE03 (inMode .oamSearch) = 0xFF ∧ write8 0xFE00 0x99 (inMode .oamSearch) = inMode .oamSearch := by decide
theorem test_M10_stat : read8 0xFF41 (write8 0xFF41 0xFF start) = 0xFC := by decide
theorem test_M12_p1 : read8 0xFF00 (write8 0xFF00 0x00 start) = 0xCF ∧ read8 0xFF00 (write8 0xFF00 0x30 start) = 0xFF := by decide

theorem test_M13_joypad_press :
    let t := hostSetJoypad 0x01 (write8 0xFF00 0x20 start)
    let u := hostSetJoypad 0x11 { t with ifl := 0 }
    read8 0xFF00 t = 0xEE ∧ t.ifl = 0x10 ∧ read8 0xFF00 u = 0xEE ∧ u.ifl = 0 ∧ read8 0xFF00 (write8 0xFF00 0x10 u) = 0xDE := by decide

/-- M18: the copy runs in MODE 2; bytes 3 and 159 are flag bytes. -/
theorem test_M18_dma :
    let s := place 0xC29C [0x9D, 0x9E, 0x9F, 0xA0] (place 0xC200 [0x01, 0x02, 0x03, 0x04] (inMode .oamSearch))
    let t := write8 0xFF46 0xC2 s
    let u := { t with ppu := { t.ppu with mode := .hblank } }
    read8 0xFE00 u = 0x01 ∧ read8 0xFE03 u = 0x00 ∧ read8 0xFE9E u = 0x9F ∧ read8 0xFE9F u = 0xA0 ∧ read8 0xFF46 u = 0xC2 := by decide +kernel

theorem test_M19_dma_source_gated :
    let t := write8 0xFF46 0x80 (place 0x8000 [0x33] (inMode .transfer))
    oamReadByte t.ppu 0 = 0xFF ∧ oamReadByte t.ppu 3 = 0xF0 := by decide +kernel

/-- B1 to B4. -/
def overlaid : State :=
  { place 0x0000 [0xC3] start with boot := some [(0x00, 0x31), (0xFF, 0xAA)], bootOff := false }

theorem test_B1_overlay : read8 0x0000 overlaid = 0x31 ∧ read8 0x00FF overlaid = 0xAA ∧ read8 0x0100 overlaid = 0x00 := by decide
theorem test_B2_overlay_kept : (write8 0xFF50 0 overlaid).bootOff = false := by decide
theorem test_B3_overlay_dropped : read8 0x0000 (write8 0xFF50 1 overlaid) = 0xC3 ∧
    (write8 0xFF50 0 (write8 0xFF50 1 overlaid)).bootOff = true := by decide

/-! The cartridge: section 2.9. -/

/-- Mbc1 with 8 banks and 8 KiB of RAM, the first byte of bank k being k. -/
def mbc1 : State :=
  { start with cart := { Cart.resetBlank with
      kind := .mbc1, romBanks := 8, xramSize := 0x2000
      rom := [(0x4000, 1), (0x8000, 2), (0xC000, 3), (0x10000, 4), (0x14000, 5), (0x18000, 6), (0x1C000, 7)] } }

/-- Mbc3 with 4 banks and 32 KiB of RAM, enabled. -/
def mbc3 : State :=
  { start with cart := { Cart.resetBlank with
      kind := .mbc3, romBanks := 4, xramSize := 0x8000, ramEn := true, rom := [(0x4000, 1), (0x8000, 2), (0xC000, 3)] } }

theorem test_K1_bank_one : read8 0x4000 mbc1 = 1 := by decide
theorem test_K2_zero_selects_one : read8 0x4000 (write8 0x2000 0x00 mbc1) = 1 := by decide
theorem test_K4_low_five_bits : read8 0x4000 (write8 0x3FFF 0xE7 mbc1) = 7 := by decide
theorem test_K5_wraps_to_bank_zero : romBank (write8 0x2000 0x08 mbc1).cart = 0 := by decide
theorem test_K7_high_bits :
    romBank (write8 0x4000 1 (write8 0x2000 2 { mbc1 with cart := { mbc1.cart with romBanks := 64 } })).cart = 34 := by decide
theorem test_K8_bank_mode :
    romBank (write8 0x6000 1 (write8 0x4000 1 (write8 0x2000 2 { mbc1 with cart := { mbc1.cart with romBanks := 64 } }))).cart = 2 := by
  decide
theorem test_K9_ram_gate :
    let on := write8 0x0000 0x0A mbc1
    let t := write8 0xBFFF 0x43 on
    read8 0xA000 mbc1 = 0xFF ∧ write8 0xA000 0x42 mbc1 = mbc1 ∧ read8 0xA000 on = 0 ∧ read8 0xBFFF t = 0x43 ∧
      read8 0xBFFF (write8 0x0000 0x0B t) = 0xFF := by decide
theorem test_K10_ram_bank_wraps :
    read8 0xA000 (write8 0x4000 3 (write8 0x6000 1 (write8 0xA000 0x42 (write8 0x0000 0x0A mbc1)))) = 0x42 := by decide
theorem test_K12_mbc3_seven_bits : read8 0x4000 (write8 0x2000 0x83 mbc3) = 3 := by decide
theorem test_K15_mbc3_clock : read8 0xA000 (write8 0x4000 0x08 mbc3) = 0xFF := by decide

/-- Arguments of reset with the given header bytes and length. -/
def argsWith (type rom ram : Byte) (length : Nat) : ResetArgs :=
  { boot := none, cart := { length := length, bytes := (((Memory.write [] 0x147 type).write 0x148 rom).write 0x149 ram) }
    ram := RamInit.blank, params := Params.default, lines := 0 }

theorem test_K16_unsupported :
    resetWith (argsWith 0x05 0 0 0x8000) = .fault (.terminal { kind := .unsupportedCartridge, address := 0x0147, value := 0x05 }) := by rfl
theorem test_K17_length : resetWith (argsWith 0 0 0 0x7000) = .refused .cartImageLength := by rfl

/-! The timer: section 2.10. -/

/-- A timer enabled on divider bit 3. -/
def fast (div : BitVec 16) (tima tma : Byte) : Timer := { div := div, tima := tima, tma := tma, tacEn := true, tacSel := 1 }

theorem test_T1_overflow : timerStep 32 (fast 0 0xFE 0x80) = (fast 0x0020 0x80 0x80, true) := by decide +kernel
theorem test_T3_div_write_ticks : (write8 0xFF04 0x55 { start with timer := fast 0x0008 0x10 0 }).timer = fast 0 0x11 0 := by decide
theorem test_T4_div_write_does_not : (write8 0xFF04 0x55 { start with timer := fast 0x0007 0x10 0 }).timer = fast 0 0x10 0 := by decide
theorem test_T5_div_write_overflow :
    let t := write8 0xFF04 0x00 { start with timer := fast 0x0008 0xFF 0x42 }
    t.timer = fast 0 0x42 0x42 ∧ t.ifl = 4 := by decide
theorem test_T8_div_wraps : timerStep 1 (fast 0xFFFF 0 0) = (fast 0 1 0, false) := by decide
theorem test_T9_two_ticks : timerStep 44 (fast 0 0xFF 0x10) = (fast 44 0x11 0x10, true) := by decide +kernel

/-! The pixel unit: section 2.11. -/

/-- The start of section 2.11 at another place in the frame. -/
def at_ (mode : PpuMode) (clock : Nat) (ly : Byte) : Ppu :=
  { Ppu.resetPCart with mode := mode, modeClock := clock, ly := ly, lyc := 0xFF }

theorem test_P2_surplus : (ppuStep 12 (at_ .oamSearch 76 0)).1.mode = .transfer ∧ (ppuStep 12 (at_ .oamSearch 76 0)).1.modeClock = 8 := by
  decide
theorem test_P4_vblank_entry :
    (ppuStep 4 (at_ .hblank 200 143)).1 = { at_ .vblank 0 144 with statLine := false } ∧ (ppuStep 4 (at_ .hblank 200 143)).2 = 1 := by decide
theorem test_P5_frame_end : (ppuStep 4 (at_ .vblank 452 153)).1 = at_ .oamSearch 0 0 := by decide
theorem test_P7_line_stays_high :
    (ppuStep 204 { at_ .hblank 0 143 with statEn := 3, statLine := true }).2 = 1 := by decide
theorem test_P9_lyc_write_raises :
    run [0xEA, 0x45, 0xFF] { start with ppu := { at_ .oamSearch 0 0 with statEn := 8, lyc := 5 } } (fun t =>
      decide (t.ifl = 2 ∧ t.ppu.statLine = true)) = true := by decide
theorem test_P10_display_off :
    let t := write8 0xFF40 0x11 { start with ppu := at_ .transfer 100 77 }
    t.ppu = { at_ .hblank 0 0 with lcdc := 0x11 } ∧ read8 0xFF41 t = 0x80 ∧ ppuStep 1000 t.ppu = (t.ppu, 0) ∧
      (write8 0xFF40 0x91 t).ppu = at_ .oamSearch 0 0 := by decide

/-! Rendering: section 2.12. -/

/-- The base scene of section 2.12 with tiles 2 and 3. -/
def scene : Ppu :=
  { Ppu.resetPCart with
    mode := .transfer, lcdc := 0x93, bgp := 0xE4, obp0 := 0x1B, obp1 := 0xE4
    vram := [(0x10, 0x3C), (0x11, 0x7E), (0x20, 0xFF), (0x31, 0xFF), (0x1800, 0x01)] }

/-- Sprite `n` of a scene. -/
def sprite (n : Nat) (y x tile flags : Byte) (p : Ppu) : Ppu :=
  oamWriteByte (4 * n) y (oamWriteByte (4 * n + 1) x (oamWriteByte (4 * n + 2) tile (oamWriteByte (4 * n + 3) flags p)))

/-- Columns `from_` to `from_ + k - 1` of the line. -/
def columns (p : Ppu) (from_ k : Nat) : List Shade := (List.range' from_ k).map (renderPixel p (paintOrder p (selectSprites p)))

theorem test_G1_background : columns scene 0 10 = [0, 2, 3, 3, 3, 3, 2, 0, 0, 0] := by decide
theorem test_G2_sprite : columns (sprite 0 0x10 0x0C 0x01 0x00 scene) 0 12 = [0, 2, 3, 3, 3, 1, 0, 0, 0, 0, 1, 0] := by decide
theorem test_G3_behind : columns (sprite 0 0x10 0x0C 0x01 0x80 scene) 4 8 = [3, 3, 2, 0, 0, 0, 1, 0] := by decide
theorem test_G4_x_flip : columns (sprite 0 0x10 0x0C 0x01 0x30 scene) 0 12 = [0, 2, 3, 3, 3, 2, 3, 3, 3, 3, 2, 0] := by decide
theorem test_G15_tall_y_flip :
    columns (sprite 0 0x10 0x28 2 0x40 { scene with lcdc := 0x97, obp0 := 0xE4, vram := [(0x3E, 0x0F), (0x3F, 0x0F)] }) 34 4 =
      [0, 0, 3, 3] := by decide
theorem test_G11_scroll_wraps : columns { scene with scx := 0xFC } 2 6 = [0, 0, 0, 2, 3, 3] := by decide
theorem test_G12_window : columns { scene with lcdc := 0xB3, wx := 0x0B } 0 8 = [0, 2, 3, 3, 0, 2, 3, 3] := by decide
theorem test_G14_signed_tiles :
    columns { scene with lcdc := 0x83, vram := [(0x800, 0xFF), (0x1800, 0x80)] } 6 4 = [1, 1, 0, 0] := by decide
theorem test_G5_tie : columns (sprite 0 0x10 0x28 2 0 (sprite 1 0x10 0x28 3 0 { scene with obp0 := 0xE4 })) 32 2 = [1, 1] := by decide
theorem test_G7_smaller_x : columns (sprite 0 0x10 0x2C 2 0 (sprite 1 0x10 0x28 3 0 { scene with obp0 := 0xE4 })) 38 4 = [2, 2, 1, 1] := by
  decide

/-! Witnesses: for each statement with hypotheses, a state and operands that meet them together; for a statement of several clauses, each
clause at the ends of its range. -/

theorem witness_DecodeInvertsEncode : Instr.set_7_A.wf = true ∧ (Instr.stop 0xFF).wf = true ∧ (Instr.jp_nn 0xFFFF).wf = true := by decide

theorem witness_EncodeInvertsDecode :
    decode [0xCB, 0xFF, 0x01] = .ok (.set_7_A, [0x01]) ∧ opLength 0xCB ≤ [(0xFF : Byte), 0x01].length + 1 ∧
      ¬opLength 0xFA ≤ [(0x00 : Byte)].length + 1 := ⟨rfl, by decide, by decide⟩

/-- The hypotheses inside `StoredByte`: a cell at both ends of each kind, open sprite memory, a dropped write. -/
theorem witness_ByteStores :
    cellOf 0x8000 start = some (.vram 0) ∧ cellOf 0x9FFF start = some (.vram 0x1FFF) ∧ cellOf 0xC000 start = some (.wram 0) ∧
      cellOf 0xDFFF start = some (.wram 0x1FFF) ∧ cellOf 0xFDFF start = some (.wram 0x1DFF) ∧ cellOf 0xFF80 start = some (.hram 0) ∧
      cellOf 0xFFFE start = some (.hram 126) ∧ cellOf 0xFF10 start = some (.snd 0) ∧ cellOf 0xFF4B start = some (.reg 0xFF4B) ∧
      (regionOf 0xFE00 = .oam ∧ regionOf 0xFE9F = .oam ∧ oamOpen start.ppu = true) ∧
      writeDropped 0xFEA0 start = true ∧ writeDropped 0x7FFF start = true ∧ writeDropped 0x8000 (inMode .transfer) = true := by decide

theorem witness_LoadAndStep :
    (Instr.ld_atHLinc_A = .ld_atHLinc_A ∧ (1 : Word) = 1) ∧ (Instr.ld_A_atHLdec = .ld_A_atHLdec ∧ (0xFFFF : Word) = 0xFFFF) := by decide

theorem witness_WordStores :
    cellOf 0xDFFE start = some (.wram 0x1FFE) ∧ cellOf (0xDFFE + 1) start = some (.wram 0x1FFF) ∧
      after (exec (.ld_atnn_SP 0xDFFE) start) (fun _ => true) = true ∧
      cellOf (start.cpu.sp - 1) start = some (.wram 0x1FEF) ∧ cellOf (start.cpu.sp - 2) start = some (.wram 0x1FEE) := by decide

theorem witness_PushThenPop :
    cellOf (start.cpu.sp - 1) start = some (.wram 0x1FEF) ∧ cellOf (start.cpu.sp - 2) start = some (.wram 0x1FEE) ∧
      Cell.wram 0x1FEF ≠ .wram 0x1FEE ∧ ∃ t, exec (Instr.push .AF) start = .next t := ⟨by decide, by decide, by decide, _, rfl⟩

theorem witness_Additions :
    (AluOp.add = .add ∧ false = false) ∧ (AluOp.adc = .adc ∧ true = (cpuAs fun c => { c with f := unpackF 0x10 }).cpu.f.c) := by
  decide

theorem witness_Subtractions :
    (AluOp.sub = .sub ∧ false = false) ∧ (AluOp.sbc = .sbc ∧ true = (cpuAs fun c => { c with f := unpackF 0x10 }).cpu.f.c) ∧
      (AluOp.cp = .cp ∧ false = false) := by decide

theorem witness_DecimalArithmetic : (9 < 10 ∧ 9 < 10 ∧ 9 < 10 ∧ 9 < 10) ∧ (0 < 10 ∧ 0 < 10 ∧ 0 < 10 ∧ 1 < 10) := by decide

theorem witness_AccumulatorRotates :
    (Instr.rlca = .rlca ∧ RotOp.rlc = .rlc) ∧ (Instr.rrca = .rrca ∧ RotOp.rrc = .rrc) ∧ (Instr.rla = .rla ∧ RotOp.rl = .rl) ∧
      (Instr.rra = .rra ∧ RotOp.rr = .rr) := by decide

/-- Of Jumps, Calls and Returns: each condition holds somewhere and fails somewhere. -/
theorem witness_Jumps :
    (CondTrue .NZ (unpackF 0x70) ∧ ¬CondTrue .NZ (unpackF 0x80)) ∧ (CondTrue .Z (unpackF 0x80) ∧ ¬CondTrue .Z (unpackF 0x70)) ∧
      (CondTrue .NC (unpackF 0xE0) ∧ ¬CondTrue .NC (unpackF 0x10)) ∧ (CondTrue .C (unpackF 0x10) ∧ ¬CondTrue .C (unpackF 0xE0)) := by
  simp [CondTrue, unpackF]

theorem witness_Calls : CondTrue .NZ start.cpu.f ∧ ¬CondTrue .Z start.cpu.f := by simp [CondTrue, start, unpackF]

theorem witness_Returns : CondTrue .NC start.cpu.f ∧ ¬CondTrue .C start.cpu.f := by simp [CondTrue, start, unpackF]

theorem witness_CallThenReturn :
    ((∃ nn, Instr.call_nn 0x1234 = .call_nn nn) ∨ ∃ y, Instr.call_nn 0x1234 = Instr.rst y) ∧
      cellOf (start.cpu.sp - 1) start = some (.wram 0x1FEF) ∧ cellOf (start.cpu.sp - 2) start = some (.wram 0x1FEE) ∧
      Cell.wram 0x1FEF ≠ .wram 0x1FEE ∧ (∃ t, exec (.call_nn 0x1234) start = .next t) ∧ ∃ t, exec (Instr.rst 7) start = .next t :=
  ⟨.inl ⟨_, rfl⟩, by decide, by decide, by decide, ⟨_, rfl⟩, _, rfl⟩

theorem witness_StopFollowsParameter :
    start.params.stop = .refuse ∧ ({ Params.default with stop := .halt } : Params).stop = .halt ∧
      ({ Params.default with stop := .nop } : Params).stop = .nop := by decide

theorem witness_BusWrites :
    writeDropped 0xFEFF start = true ∧ writeDropped 0xFF44 start = true ∧ writeDropped 0xA000 start = true ∧
      storeTouches 0x2000 0x3FFF start = false ∧ storeTouches 0x2000 0x4000 start = true ∧ storeTouches 0xC000 0xE001 start = false ∧
      storeTouches 0xC000 0xE000 start = true ∧ storeTouches 0xFF04 0xFF06 start = false ∧ storeTouches 0xFF50 0x0100 start = false ∧
      storeTouches 0xFF0F 0xFFFF start = false := by decide

theorem witness_EchoOfWorkRam :
    0 < 0x1E00 ∧ 0x1DFF < 0x1E00 ∧ 0xDE00 ≤ (0xDE00 : Word).toNat ∧ (0xDFFF : Word).toNat < 0xE000 := by decide

theorem witness_BankControlWrites :
    (start.cart.kind = .romOnly ∧ mbc1.cart.kind = .mbc1 ∧ mbc3.cart.kind = .mbc3) ∧
      [(0x0000 : Word), 0x1FFF, 0x2000, 0x3FFF, 0x4000, 0x5FFF, 0x6000, 0x7FFF].all (fun a => decide (a.toNat < 0x8000)) = true := by
  decide

theorem witness_RomWindowReads :
    (overlaid.boot = some [(0x00, 0x31), (0xFF, 0xAA)] ∧ overlaid.bootOff = false ∧ (0x00FF : Word).toNat < 0x100) ∧
      (0x100 ≤ (0x0100 : Word).toNat ∧ (0x3FFF : Word).toNat < 0x4000) ∧ (start.boot = none ∧ start.bootOff = true) ∧
      (write8 0xFF50 1 overlaid).bootOff = true ∧ (0x4000 ≤ (0x4000 : Word).toNat ∧ (0x7FFF : Word).toNat < 0x8000) := by decide

theorem witness_CartridgeRamGate :
    (0xA000 ≤ (0xA000 : Word).toNat ∧ (0xBFFF : Word).toNat < 0xC000) ∧ mbc1.cart.ramEn = false ∧ start.cart.xramSize = 0 ∧
      (mbc3.cart.kind = .mbc3 ∧ (8 : BitVec 4).toNat > 3) ∧
      ¬(mbc3.cart.ramEn = false ∨ mbc3.cart.xramSize = 0 ∨ (mbc3.cart.kind = .mbc3 ∧ mbc3.cart.bankHi.toNat > 3)) := by decide

theorem witness_StubReads :
    stubRead 0xFEA0 start = true ∧ stubRead 0xFF50 start = true ∧ stubRead 0xFF7F start = true ∧ stubRead 0xA000 start = true ∧
      stubRead 0x8000 (inMode .transfer) = true ∧ stubRead 0xFE00 (inMode .oamSearch) = true := by decide

theorem witness_OamDma : 0 < 160 ∧ 159 < 160 := by decide

theorem witness_CanonicalMemory :
    Memory.wf [(0, 1), (5, 0xFF)] = true ∧ ∀ a, Memory.read [(0, 1), (5, 0xFF)] a = Memory.read ((Memory.write [] 5 0xFF).write 0 1) a :=
  ⟨by decide, fun _ => rfl⟩

theorem witness_InterruptResolution :
    start.ifl &&& start.ie = 0 ∧
      (let s := { start with ifl := 0b10000, ie := 0b11111 }
       s.ifl &&& s.ie ≠ 0 ∧ s.cpu.ime = false ∧ (s.ifl &&& s.ie).getLsbD 4 = true ∧ ∀ j, j < 4 → (s.ifl &&& s.ie).getLsbD j = false) ∧
      (let s := { cpuAs fun c => { c with ime := true } with ifl := 0b11111, ie := 0b00001 }
       (s.ifl &&& s.ie).getLsbD 0 = true ∧ s.cpu.ime = true) := by decide

theorem witness_StepRunsDecodedInstruction :
    start.fault = none ∧ (resolve start).1.cpu.halted = false ∧
      (resolve (cpuAs fun c => { c with halted := true })).1.cpu.halted = true := by decide

theorem witness_DevicesFollow :
    start.fault = none ∧ ({ start with fault := some { kind := .illegalOpcode, address := 0, value := 0xD3 } } : State).fault ≠ none := by
  decide

theorem witness_FaultIsTerminal :
    (let s := place 0xC000 [0xD3] start
     s.fault = none ∧ s.ifl &&& s.ie = 0 ∧ s.cpu.halted = false ∧
       read8 s.cpu.pc s = 0xD3) ∧
      ({ start with fault := some { kind := .illegalOpcode, address := 0, value := 0xD3 } } : State).fault =
        some { kind := .illegalOpcode, address := 0, value := 0xD3 } := by decide

theorem witness_EnableDelay :
    let s := { place 0xC000 [0xFB] start with ifl := 0b11111, ie := 0b11111 }
    s.fault = none ∧ s.cpu.halted = false ∧ s.cpu.ime = false ∧ s.cpu.imePending = false ∧ read8 s.cpu.pc s = 0xFB := by decide

theorem witness_ParkedForever : (cpuAs fun c => { c with halted := true }).Parked := by
  unfold State.Parked
  decide

theorem witness_StepCosts :
    start.params = Params.default ∧ after (step start) (fun t => decide (t.fault = none)) = true := by decide

theorem witness_StepKeepsConfiguration : (∃ t, step start = .next t) ∧ State.reset.bootOff = true := ⟨⟨_, rfl⟩, rfl⟩

/-- A legal position of the frame. -/
theorem ppu_inv_at (mode : PpuMode) (clock : Nat) (ly : Byte) (hc : clock < mode.duration) (hl : ly.toNat ≤ 153)
    (hv : mode = .vblank ↔ 144 ≤ ly.toNat) : (at_ mode clock ly).Inv where
  clock := hc
  ly := hl
  vblank := hv
  off := fun h => by simp [at_, Ppu.resetPCart] at h
  vram := by simp [at_, Ppu.resetPCart, Memory.ok, Memory.wf, Memory.rising, Memory.within]
  frameRows := by simp [at_, Ppu.resetPCart]
  frameRising := by simp [at_, Ppu.resetPCart]

theorem witness_ScanlineCounter :
    ((at_ .oamSearch 0 0).Inv ∧ (at_ .oamSearch 0 0).lcdc.getLsbD 7 = true) ∧ (at_ .hblank 203 143).Inv ∧ (at_ .vblank 455 153).Inv :=
  ⟨⟨ppu_inv_at _ _ _ (by decide) (by decide) (by decide), by decide⟩, ppu_inv_at _ _ _ (by decide) (by decide) (by decide),
    ppu_inv_at _ _ _ (by decide) (by decide) (by decide)⟩

theorem witness_StatusLine : start.ppu.lcdc.getLsbD 7 = false ∧ (at_ .oamSearch 0 0).lcdc.getLsbD 7 = true := by decide

theorem witness_RenderedLine :
    (at_ .transfer 171 143).Inv ∧ (at_ .transfer 171 143).ly.toNat < 144 ∧ (at_ .transfer 171 143).lcdc.getLsbD 1 = false ∧ 159 < 160 :=
  ⟨ppu_inv_at _ _ _ (by decide) (by decide) (by decide), by decide, by decide, by decide⟩

/-- Sprites 0 and 1 both show a pixel in column 38; sprite 1 lies further left. Sprite 0 has none in column 34. -/
theorem witness_SpritePriority :
    let p := sprite 0 0x10 0x2C 2 0 (sprite 1 0x10 0x28 3 0 scene)
    selectSprites p = [0, 1] ∧ spriteRaw p 0 38 = some 1 ∧ spriteRaw p 1 38 = some 2 ∧ (oamRecord p 1).behindBg = false ∧
      (oamRecord p 1).x.toNat < (oamRecord p 0).x.toNat ∧ spriteRaw p 0 34 = none ∧
      (∀ n ∈ selectSprites p, spriteRaw p n 100 = none) ∧ spriteCovers p 0 = true := by decide

/-- Line 0 falls when Right is pressed with the direction group selected. -/
theorem witness_Joypad :
    let s := write8 0xFF00 0x20 start
    (0 < 4 ∧ 3 < 4) ∧ s.joypad.sel.getLsbD 0 = false ∧ s.joypad.lines.getLsbD 0 = false ∧ (0x01 : Byte).getLsbD 0 = true := by decide

theorem witness_ResetWithoutBootImage :
    let args := argsWith 0x13 0x08 0x05 0x800000
    args.boot = none ∧ cartTypeOf (args.cart.bytes.read 0x147) = some .mbc3 ∧ (args.cart.bytes.read 0x148).toNat ≤ 8 ∧
      args.cart.length = 2 * 2 ^ (args.cart.bytes.read 0x148).toNat * 0x4000 ∧
      [0, 2048, 8192, 32768, 131072, 65536][(args.cart.bytes.read 0x149).toNat]? = some 65536 := by decide

theorem witness_ResetWithBootImage :
    let args := { argsWith 0x01 0x00 0x00 0x8000 with boot := some { length := 256, bytes := [(0xFF, 0xAA)] } }
    args.boot = some { length := 256, bytes := [(0xFF, 0xAA)] } ∧ cartTypeOf (args.cart.bytes.read 0x147) = some .mbc1 ∧
      (args.cart.bytes.read 0x148).toNat ≤ 8 ∧ args.cart.length = 2 * 2 ^ (args.cart.bytes.read 0x148).toNat * 0x4000 ∧
      [0, 2048, 8192, 32768, 131072, 65536][(args.cart.bytes.read 0x149).toNat]? = some 0 := by decide

theorem witness_UnsupportedCartridge :
    (∀ image, (argsWith 0xFF 0 0 0x150).boot = some image → image.length = 256) ∧ 0x150 ≤ (argsWith 0xFF 0 0 0x150).cart.length ∧
      (argsWith 0xFF 0 0 0x150).cart.bytes.read 0x147 ∉ [0x00#8, 0x01, 0x02, 0x03, 0x0F, 0x10, 0x11, 0x12, 0x13] :=
  ⟨fun _ h => by simp [argsWith] at h, by decide, by decide⟩

/-- Of UnsupportedCartridge's second clause: a running machine that comes to a fault. -/
theorem witness_UnsupportedCartridge_running :
    start.fault = none ∧ run [0xFD] start (fun t => decide (t.fault ≠ none)) = true := by decide

theorem start_ppu_inv : start.ppu.Inv where
  clock := by decide
  ly := by decide
  vblank := by decide
  off := fun _ => by decide
  vram := by simp [start, State.reset, Ppu.resetPCart, Memory.ok, Memory.wf, Memory.rising, Memory.within]
  frameRows := by simp [start, State.reset, Ppu.resetPCart]
  frameRising := by simp [start, State.reset, Ppu.resetPCart]

theorem start_cart_inv : start.cart.Inv where
  rom := by simp [start, State.reset, Cart.resetBlank, Memory.ok, Memory.wf, Memory.rising, Memory.within]
  xram := by simp [start, State.reset, Cart.resetBlank, Memory.ok, Memory.wf, Memory.rising, Memory.within]
  bankLo := by decide
  romOnly := by decide
  mbc1 := by decide
  mbc3 := by decide

theorem witness_StepKeepsInvariant : start.Inv ∧ ∃ t, step start = .next t := by
  refine ⟨{ cart := start_cart_inv, ppu := start_ppu_inv, wram := ?_, hram := ?_, snd := ?_, boot := ?_, bootOff := ?_, fault := ?_ },
    _, rfl⟩
  all_goals simp [start, State.reset, Memory.ok, Memory.wf, Memory.rising, Memory.within]

end Sys2Proof.Tests
end

section
/-!
SUPPORT. What an instruction and a step can do outside the processor, said once: bus writes, then the devices.
-/

namespace Sys2Proof.Machine

/-- `t` comes from `s` by bus writes and by changes of the processor's registers and of the number a step returns: all that an instruction
that completes does (20_memory.md R71). The `_iff` lemmas say that the processor does not matter, the `_self` lemmas that the bus
operations are such changes. -/
inductive BusReach (s : State) : State → Prop
  | refl : BusReach s s
  | regs {t : State} (c : Cpu) (k : Nat) : BusReach s t → BusReach s { t with cpu := c, cycles := k }
  | write {t : State} (a : Word) (v : Byte) : BusReach s t → BusReach s (write8 a v t)

namespace BusReach

variable {s t u : State}

@[simp] theorem self (s : State) : BusReach s s := .refl

@[simp] theorem with_cpu_iff (c : Cpu) : BusReach s { t with cpu := c } ↔ BusReach s t :=
  ⟨fun h => h.regs t.cpu t.cycles, fun h => h.regs c t.cycles⟩

@[simp] theorem setPc_iff (v : Word) : BusReach s (t.setPc v) ↔ BusReach s t := with_cpu_iff _

@[simp] theorem setSp_iff (v : Word) : BusReach s (t.setSp v) ↔ BusReach s t := with_cpu_iff _

@[simp] theorem setFlags_iff (f : Flags) : BusReach s (t.setFlags f) ↔ BusReach s t := with_cpu_iff _

@[simp] theorem setReg_iff (r : Reg8) (v : Byte) : BusReach s (t.setReg r v) ↔ BusReach s t := by
  cases r <;> exact with_cpu_iff _

@[simp] theorem setPair_iff (p : Pair) (v : Word) : BusReach s (t.setPair p v) ↔ BusReach s t := by
  cases p <;> exact with_cpu_iff _

@[simp] theorem setStackPair_iff (p : StackPair) (v : Word) : BusReach s (t.setStackPair p v) ↔ BusReach s t := by
  cases p <;> exact with_cpu_iff _

@[simp] theorem popSp_iff : BusReach s (popSp t) ↔ BusReach s t := setSp_iff _

@[simp] theorem popPc_iff : BusReach s (popPc t) ↔ BusReach s t := by simp [popPc]

@[simp] theorem returnFromInterrupt_iff : BusReach s (returnFromInterrupt t) ↔ BusReach s t := by
  simp [returnFromInterrupt]

@[simp] theorem applyPendingEnable_iff : BusReach s (applyPendingEnable t) ↔ BusReach s t := by
  unfold applyPendingEnable
  split <;> simp

@[simp] theorem skipInstr_iff : BusReach s (skipInstr t) ↔ BusReach s t := setPc_iff _

@[simp] theorem write8_self (a : Word) (v : Byte) (s : State) : BusReach s (write8 a v s) := refl.write a v

@[simp] theorem setAtHL_self (v : Byte) (s : State) : BusReach s (s.setAtHL v) := refl.write _ v

@[simp] theorem write16_self (a v : Word) (s : State) : BusReach s (write16 a v s) := (refl.write _ _).write _ _

@[simp] theorem push16_self (v : Word) (s : State) : BusReach s (push16 v s) := by
  rw [push16_eq, setSp_iff]
  exact (refl.write _ _).write _ _

theorem trans (h : BusReach s t) (h' : BusReach t u) : BusReach s u := by
  induction h' with
  | refl => exact h
  | regs c k _ ih => exact ih.regs c k
  | write a v _ ih => exact ih.write a v

end BusReach

/-- The outcomes of an instruction run from `s`: it completes and has reached the rest of the machine through the bus only, or it is
illegal (46_system.md R377), or it has no successor state. -/
inductive InstrOutcome (s : State) : Out → Prop
  | completes {t : State} : BusReach s t → InstrOutcome s (.next t)
  | illegal (op : Byte) : InstrOutcome s (illegalOpcode op s)
  | refused (r : Refusal) : InstrOutcome s (.refused r)

@[simp] theorem InstrOutcome.done {s t : State} (k : Nat) (h : BusReach s t) : InstrOutcome s (done k t) :=
  .completes (h.regs t.cpu k)

@[simp] theorem InstrOutcome.ite {s : State} {c : Prop} [Decidable c] {o o' : Out} (h : InstrOutcome s o) (h' : InstrOutcome s o') :
    InstrOutcome s (if c then o else o') := by
  split
  · exact h
  · exact h'

theorem stop_outcome (s : State) : InstrOutcome s (stop s) := by
  unfold stop
  split
  · exact .refused _
  · simp [halt]
  · simp [complete]

/-- The extended space has four groups, each with a register form and a form at HL (30_encoding.md R172). -/
theorem extended_outcome (op2 : Byte) (s : State) : InstrOutcome s (extended op2 s) := by
  unfold extended
  dsimp only
  split
  · simp [rotReg]
  · simp [rotAtHL]
  · simp [bitTestReg]
  · simp [bitTestAtHL]
  · simp [bitResetReg]
  · simp [bitResetAtHL]
  · simp [bitSetReg]
  · simp [bitSetAtHL]

/-- What any of the 512 rows can do. Beside the illegal opcodes, STOP and the row of 0xCB, every family's operation ends in `done` after at
most one byte, one word or one push through the bus, the conditional ones on both branches. -/
theorem exec_outcome (i : Instr) (s : State) : InstrOutcome s (exec i s) := by
  induction i using Instr.byFamily
  case f_illegal ill => rw [exec_illegal]; exact .illegal _
  case f_stop => exact stop_outcome s
  case f_prefix_CB op2 => exact extended_outcome op2 s
  all_goals
    simp [loadRegReg, loadRegN, loadRegAtHL, storeAtHL, loadA, storeA, storeAStep, loadAStep,
      loadPairNN, storeSp, loadSpHl, loadHlSpE, pushPair, popPair,
      aluReg, aluAtHL, aluN, aluWith, incReg, decReg, incAtHL, decAtHL, decimalAdjust, complementA, setCarry, complementCarry,
      addHl, incPair, decPair, addSpE,
      rotA, rotReg, rotAtHL, bitTestReg, bitTestAtHL, bitResetReg, bitResetAtHL, bitSetReg, bitSetAtHL,
      jump, jumpIf, jumpRelative, jumpRelativeIf, callTo, callIf, returnTo, returnIf, returnAndEnable, restart,
      complete, halt, disableInterrupts, enableInterrupts]

theorem InstrOutcome.next_cases {s u : State} (h : InstrOutcome s (.next u)) :
    BusReach s u ∨ ∃ a op, u = raiseFault .illegalOpcode a op s := by
  cases h with
  | completes hu => exact .inl hu
  | illegal op => exact .inr ⟨_, op, rfl⟩

/-- The processor's part of a step: from `s` it completes through the bus, or it ends in the fault of an illegal opcode. -/
theorem cpuStep_next_cases {s u : State} (h : cpuStep s = .next u) :
    BusReach s u ∨ ∃ v a op, BusReach s v ∧ u = raiseFault .illegalOpcode a op v := by
  by_cases hh : s.cpu.halted = true
  · rw [cpuStep_halted hh] at h
    cases h
    exact .inl (BusReach.refl.regs s.cpu _)
  · rw [cpuStep_running (by simpa using hh)] at h
    have hb : BusReach s (skipInstr (applyPendingEnable s)) := by simp
    have ho := exec_outcome (fetchInstr (applyPendingEnable s)) (skipInstr (applyPendingEnable s))
    rw [h] at ho
    obtain hu | ⟨a, op, hu⟩ := ho.next_cases
    · exact .inl (hb.trans hu)
    · exact .inr ⟨_, a, op, hb, hu⟩

/-- Interrupt resolution acknowledges in IF and works through the bus (60_exceptions.md R413, R414). -/
theorem resolve_reach (s : State) : ∃ ifl, BusReach { s with ifl := ifl } (resolve s).1 := by
  unfold resolve
  split
  · exact ⟨s.ifl, .refl⟩
  rename_i i _
  split
  · refine ⟨(acknowledge i s).ifl, ?_⟩
    simp only [service, BusReach.setPc_iff]
    exact (BusReach.refl.regs _ s.cycles).trans (.push16_self _ _)
  · exact ⟨s.ifl, BusReach.refl.regs _ _⟩

/-- A step with a successor: but for IF, the processor reaches the rest of the machine through the bus; an illegal opcode may then be
recorded; the devices follow (60_exceptions.md R420). -/
theorem step_next_reach {s t : State} (h : step s = .next t) :
    ∃ ifl ci v u, BusReach { s with ifl := ifl } v ∧ (u = v ∨ ∃ a op, u = raiseFault .illegalOpcode a op v) ∧ t = finish ci u := by
  obtain ⟨-, u, hu, rfl⟩ := step_next_cases h
  obtain ⟨ifl, hr⟩ := resolve_reach s
  obtain hb | ⟨v, a, op, hb, rfl⟩ := cpuStep_next_cases hu
  · exact ⟨ifl, _, u, u, hr.trans hb, .inl rfl, rfl⟩
  · exact ⟨ifl, _, v, _, hr.trans hb, .inr ⟨a, op, rfl⟩, rfl⟩

theorem BusReach.keeps {P : State → Prop} (registers : ∀ s c k, P s → P { s with cpu := c, cycles := k })
    (write : ∀ s a v, P s → P (write8 a v s)) {s t : State} (h : BusReach s t) (hs : P s) : P t := by
  induction h with
  | refl => exact hs
  | regs c k _ ih => exact registers _ c k ih
  | write a v _ ih => exact write _ a v ih

/-- What every bus write, every change of the processor, IF and the returned number, a recorded illegal opcode and the devices keep, a
step keeps. -/
theorem step_keeps {P : State → Prop}
    (registers : ∀ s c ifl k, P s → P { s with cpu := c, ifl := ifl, cycles := k })
    (write : ∀ s a v, P s → P (write8 a v s))
    (illegal : ∀ s a op, P s → P (raiseFault .illegalOpcode a op s))
    (devices : ∀ s ci, P s → P (finish ci s))
    {s t : State} (hs : P s) (h : step s = .next t) : P t := by
  obtain ⟨ifl, ci, v, u, hreach, hu, rfl⟩ := step_next_reach h
  have hv : P v := hreach.keeps (fun u c k => registers u c u.ifl k) write (registers s s.cpu ifl s.cycles hs)
  obtain rfl | ⟨a, op, rfl⟩ := hu
  · exact devices _ ci hv
  · exact devices _ ci (illegal v a op hv)

end Sys2Proof.Machine
end

section
/-!
SUPPORT. The configuration, which no step changes (10_state.md R34, R40).
-/

namespace Sys2Proof.Machine

/-- `t` has the configuration of `s`, and BOOT_OFF has not fallen (10_state.md R34, R40). -/
structure SameConfig (s t : State) : Prop where
  params : t.params = s.params
  boot : t.boot = s.boot
  rom : t.cart.rom = s.cart.rom
  kind : t.cart.kind = s.cart.kind
  romBanks : t.cart.romBanks = s.cart.romBanks
  xramSize : t.cart.xramSize = s.cart.xramSize
  lines : t.joypad.lines = s.joypad.lines
  bootOff : s.bootOff = true → t.bootOff = true

theorem SameConfig.trans {s t u : State} (h : SameConfig s t) (h' : SameConfig t u) : SameConfig s u where
  params := h'.params.trans h.params
  boot := h'.boot.trans h.boot
  rom := h'.rom.trans h.rom
  kind := h'.kind.trans h.kind
  romBanks := h'.romBanks.trans h.romBanks
  xramSize := h'.xramSize.trans h.xramSize
  lines := h'.lines.trans h.lines
  bootOff := h'.bootOff ∘ h.bootOff

theorem BusFrame.sameConfig {s t : State} (h : BusFrame s t) : SameConfig s t :=
  ⟨h.params, h.boot, h.rom, h.kind, h.romBanks, h.xramSize, h.lines, h.bootOff⟩

theorem finish_sameConfig (ci : Nat) (s : State) : SameConfig s (finish ci s) := by
  obtain ⟨_, _, _, _, h⟩ := finish_effect ci s
  rw [h]
  exact ⟨rfl, rfl, rfl, rfl, rfl, rfl, rfl, id⟩

theorem step_sameConfig {s t : State} (h : step s = .next t) : SameConfig s t :=
  step_keeps (P := SameConfig s)
    (fun _ _ _ _ h => h.trans ⟨rfl, rfl, rfl, rfl, rfl, rfl, rfl, id⟩)
    (fun u a v h => h.trans (write8_frame a v u).sameConfig)
    (fun _ _ _ h => h.trans ⟨rfl, rfl, rfl, rfl, rfl, rfl, rfl, id⟩)
    (fun u ci h => h.trans (finish_sameConfig ci u))
    ⟨rfl, rfl, rfl, rfl, rfl, rfl, rfl, id⟩ h

/-- Settles O47: a step is bus writes, processor changes and device moves, and none of them touches the configuration. -/
theorem stepKeepsConfiguration : Obligations.StepKeepsConfiguration := by
  intro s t h
  obtain ⟨hparams, hboot, hrom, hkind, hbanks, hsize, hlines, hoff⟩ := step_sameConfig h
  exact ⟨hparams, hboot, hrom, hkind, hbanks, hsize, hlines, hoff⟩

end Sys2Proof.Machine
end

section
/-!
SUPPORT. Arrays in canonical form: equal contents are equal data (10_state.md R33), and a write inside the size keeps the form and the size.
-/

namespace Sys2Proof.Machine

theorem Memory.ok_write {size : Nat} {m : Memory} (h : m.ok size) {a : Nat} (ha : a < size) (v : Byte) : (m.write a v).ok size := by
  obtain ⟨hwf, hwithin⟩ := h
  exact ⟨m.write_wf a v hwf, m.write_within v ha hwithin⟩

theorem Memory.wf_cons_iff (k : Nat) (v : Byte) (m : Memory) :
    Memory.wf ((k, v) :: m) = true ↔ (∀ c ∈ m, k < c.1) ∧ v ≠ unlisted ∧ m.wf = true := by
  simp only [wf, Bool.and_eq_true, rising_iff, List.pairwise_cons, List.all_cons, decide_eq_true_eq]
  tauto

/-- The first listed offset decides: the array whose least offset is smaller reads a listed byte there, the other an unlisted one. -/
theorem Memory.read_ne_of_head_lt {k : Nat} {v : Byte} {m m' : Memory} (h : Memory.wf ((k, v) :: m) = true) (h' : ∀ c ∈ m', k < c.1) :
    Memory.read ((k, v) :: m) k ≠ m'.read k := by
  obtain ⟨-, hv, -⟩ := (wf_cons_iff k v m).mp h
  rw [read_of_lt m' k h', read, if_pos rfl]
  exact hv

theorem Memory.ext_of_wf (m m' : Memory) (h : m.wf = true) (h' : m'.wf = true) (hread : ∀ a, m.read a = m'.read a) : m = m' := by
  induction m generalizing m' with
  | nil =>
    cases m' with
    | nil => rfl
    | cons c m' => exact absurd (hread c.1).symm (read_ne_of_head_lt h' (by simp))
  | cons c m ih =>
    obtain ⟨k, v⟩ := c
    cases m' with
    | nil => exact absurd (hread k) (read_ne_of_head_lt h (by simp))
    | cons c' m' =>
      obtain ⟨k', v'⟩ := c'
      obtain ⟨hk, -, hm⟩ := (wf_cons_iff k v m).mp h
      obtain ⟨hk', -, hm'⟩ := (wf_cons_iff k' v' m').mp h'
      obtain hlt | rfl | hlt := Nat.lt_trichotomy k k'
      · exact absurd (hread k) (read_ne_of_head_lt h (by simpa [hlt] using fun a b hab => hlt.trans (hk' (a, b) hab)))
      · have hv : v = v' := by simpa [Memory.read] using hread k
        have htail : ∀ a, Memory.read m a = Memory.read m' a := fun a => by
          by_cases ha : k = a
          · subst ha
            rw [read_of_lt m k hk, read_of_lt m' k hk']
          · simpa [read, ha] using hread a
        rw [hv, ih m' hm hm' htail]
      · exact absurd (hread k').symm (read_ne_of_head_lt h' (by simpa [hlt] using fun a b hab => hlt.trans (hk (a, b) hab)))

/-- Settles O39, by induction on the first array: the heads must be at one offset with one byte, and then the tails read alike. -/
theorem canonicalMemory : Obligations.CanonicalMemory := Memory.ext_of_wf

end Sys2Proof.Machine
end

section
/-!
SUPPORT. The invariant of the machine through the bus, the devices and the step.
-/

namespace Sys2Proof.Machine

/-! The cartridge. -/

/-- The bank number an Mbc1 write of `t` selects (21_cartridge.md R143): 0 becomes 1. -/
theorem mbc1_bankLo_range (t : BitVec 5) :
    (if t = 0 then 1 else t.setWidth 7 : BitVec 7) ≠ 0 ∧ (if t = 0 then 1 else t.setWidth 7 : BitVec 7).toNat < 32 := by
  revert t; decide

theorem mbc1_bankHi_range (t : BitVec 2) : (t.setWidth 4).toNat < 4 := by revert t; decide

theorem bankControl_inv {c : Cart} (h : c.Inv) (a : Nat) (v : Byte) : (bankControl c a v).Inv := by
  unfold bankControl
  split
  next => exact h
  next hk =>
    obtain ⟨hlo, hhi⟩ := h.mbc1 hk
    have hlo' := mbc1_bankLo_range (v.extractLsb' 0 5)
    split
    · exact { h with romOnly := by simp [hk], mbc3 := by simp [hk] }
    split
    · exact { h with bankLo := hlo'.1, romOnly := by simp [hk], mbc1 := fun _ => ⟨hlo'.2, hhi⟩ }
    split
    · exact { h with romOnly := by simp [hk], mbc1 := fun _ => ⟨hlo, mbc1_bankHi_range _⟩ }
    · exact { h with romOnly := by simp [hk], mbc3 := by simp [hk] }
  next hk =>
    split
    · exact { h with romOnly := by simp [hk], mbc1 := by simp [hk] }
    split
    · refine { h with bankLo := ?_, romOnly := by simp [hk], mbc1 := by simp [hk] }
      dsimp only
      split
      · decide
      · assumption
    split
    · exact { h with romOnly := by simp [hk], mbc1 := by simp [hk] }
    · exact h

theorem xramWrite_inv {c : Cart} (h : c.Inv) (a : Nat) (v : Byte) : (xramWrite c a v).Inv := by
  unfold xramWrite
  split
  · rename_i hopen
    have hsize : c.xramSize ≠ 0 := fun h0 => by simp [xramOpen, h0] at hopen
    exact { h with xram := Memory.ok_write h.xram (Nat.mod_lt _ (by omega)) v }
  · exact h

/-! The pixel unit. -/

theorem setFrameRow_mem {y : Nat} {row : Row} {f : List (Nat × Row)} {e : Nat × Row} (h : e ∈ setFrameRow y row f) :
    e = (y, row) ∨ e ∈ f := by
  induction f with
  | nil => simpa [setFrameRow] using h
  | cons d f ih =>
    obtain ⟨k, old⟩ := d
    simp only [setFrameRow] at h
    split at h
    · simpa using h
    split at h
    · simp only [List.mem_cons] at h ⊢; tauto
    · simp only [List.mem_cons] at h ⊢; tauto

theorem setFrameRow_rising (y : Nat) (row : Row) {f : List (Nat × Row)} (h : (f.map Prod.fst).Pairwise (· < ·)) :
    ((setFrameRow y row f).map Prod.fst).Pairwise (· < ·) := by
  rw [List.pairwise_map] at h ⊢
  induction f with
  | nil => simp [setFrameRow]
  | cons d f ih =>
    obtain ⟨k, old⟩ := d
    obtain ⟨hk, hf⟩ := List.pairwise_cons.mp h
    simp only [setFrameRow]
    split
    · rename_i hlt
      refine List.pairwise_cons.mpr ⟨fun e he => ?_, h⟩
      obtain rfl | he := List.mem_cons.mp he
      · exact hlt
      · exact hlt.trans (hk e he)
    split
    · rename_i heq
      subst heq
      exact List.pairwise_cons.mpr ⟨hk, hf⟩
    · refine List.pairwise_cons.mpr ⟨fun e he => ?_, ih hf⟩
      obtain rfl | he := setFrameRow_mem he
      · simp only; omega
      · exact hk e he

@[simp] theorem renderRow_length (p : Ppu) : (renderRow p).length = 160 := by simp [renderRow]

/-- `Ppu.Inv` but for MODE_CLOCK and the display-off clause: what the loop of `ppu_step` keeps while MODE_CLOCK still holds the cycles of
later modes. -/
structure Ppu.Legal (p : Ppu) : Prop where
  ly : p.ly.toNat ≤ 153
  vblank : p.mode = .vblank ↔ 144 ≤ p.ly.toNat
  vram : Memory.ok 0x2000 p.vram
  frameRows : ∀ e ∈ p.frame, e.1 < 144 ∧ e.2.length = 160
  frameRising : (p.frame.map Prod.fst).Pairwise (· < ·)

theorem Ppu.Inv.legal {p : Ppu} (h : p.Inv) : p.Legal := ⟨h.ly, h.vblank, h.vram, h.frameRows, h.frameRising⟩

theorem Ppu.Legal.inv {p : Ppu} (h : p.Legal) (hon : p.lcdc.getLsbD 7 = true) (hclock : p.modeClock < p.mode.duration) : p.Inv :=
  { h with clock := hclock, off := by simp [hon] }

theorem renderScanline_legal {p : Ppu} (h : p.Legal) : (renderScanline p).Legal := by
  unfold renderScanline
  split
  · rename_i hly
    refine { h with frameRows := fun e he => ?_, frameRising := setFrameRow_rising _ _ h.frameRising }
    obtain rfl | he := setFrameRow_mem he
    · exact ⟨hly, renderRow_length p⟩
    · exact h.frameRows e he
  · exact h

/-- The mode after an expiry fits the line: h-blank of line 143 leads to v-blank, the last line of v-blank to line 0 (62_ppu.md R481). -/
theorem ppuExpire_legal {p : Ppu} (h : p.Legal) : (ppuExpire p).1.Legal := by
  have hly := h.ly
  have hv := h.vblank
  unfold ppuExpire
  split
  next hm => exact { h with vblank := by simpa [hm] using hv }
  next hm =>
    obtain ⟨f, hf⟩ := renderScanline_effect p
    exact { renderScanline_legal h with vblank := by simpa [hm, hf] using hv }
  next hm =>
    have hlt : p.ly.toNat < 144 := by simpa [hm] using hv
    have hnext : (p.ly + 1).toNat = p.ly.toNat + 1 := by bv_omega
    split
    · rename_i hlast
      have h144 : p.ly.toNat + 1 = 144 := hnext.symm.trans (congrArg BitVec.toNat hlast)
      exact { h with ly := by simp only [hnext]; omega, vblank := by simp only [hnext, true_iff]; omega }
    · rename_i hlast
      have h144 : p.ly.toNat + 1 ≠ 144 := fun e => hlast (BitVec.eq_of_toNat_eq (hnext.trans e))
      exact { h with ly := by simp only [hnext]; omega, vblank := by simp only [hnext, reduceCtorEq, false_iff]; omega }
  next hm =>
    have hge : 144 ≤ p.ly.toNat := hv.mp hm
    have hnext : (p.ly + 1).toNat = p.ly.toNat + 1 := by bv_omega
    split
    · exact { h with ly := by simp, vblank := by simp }
    · rename_i hlast
      have h154 : p.ly.toNat + 1 ≠ 154 := fun e => hlast (BitVec.eq_of_toNat_eq (hnext.trans e))
      exact { h with ly := by simp only [hnext]; omega, vblank := by simp only [hnext, hm, true_iff]; omega }

theorem PpuMode.duration_pos (m : PpuMode) : 0 < m.duration := by cases m <;> decide

theorem ppuLoop_inv (k : Nat) (p : Ppu) (hk : p.modeClock ≤ k) (hon : p.lcdc.getLsbD 7 = true) (h : p.Legal) : (ppuLoop k p).1.Inv := by
  induction k generalizing p with
  | zero => exact h.inv hon (by have := p.mode.duration_pos; omega)
  | succ k ih =>
    unfold ppuLoop
    split
    · exact h.inv hon ‹_›
    · have hd := p.mode.duration_pos
      obtain ⟨m, l, f, he⟩ := ppuExpire_effect { p with modeClock := p.modeClock - p.mode.duration }
      refine ih _ ?_ ?_ (ppuExpire_legal { h with })
      · rw [he]; simp only; omega
      · rw [he]; exact hon

theorem ppuStep_inv (n : Nat) {p : Ppu} (h : p.Inv) : (ppuStep n p).1.Inv := by
  unfold ppuStep
  split
  · rename_i hon
    have hadv : (ppuAdvance n p).1.Inv := ppuLoop_inv _ _ le_rfl hon { h.legal with }
    exact { hadv with }
  · exact { h with }

/-- Both transitions of LCDC bit 7 put the unit at the start of line 0 (62_ppu.md R482). -/
theorem lcdcWrite_inv {p : Ppu} (h : p.Inv) (v : Byte) : (lcdcWrite p v).Inv := by
  unfold lcdcWrite
  split
  next => exact { h with clock := PpuMode.duration_pos _, ly := by simp, vblank := by simp, off := by simp }
  next hon => exact { h with clock := PpuMode.duration_pos _, ly := by simp, vblank := by simp, off := by simp [hon] }
  next hkept _ =>
    exact { h with off := fun hv => h.off (by simpa using fun hon => hkept hon hv) }

/-! The bus. -/

theorem ioWrite_inv {s : State} (h : s.Inv) (a : Nat) (v : Byte) : (ioWrite a v s).Inv := by
  unfold ioWrite
  split
  next hsnd => exact { h with snd := Memory.ok_write h.snd (by omega) v }
  split
  case h_9 => exact { h with ppu := lcdcWrite_inv h.ppu v }
  case h_14 =>
    obtain ⟨oam, hoam⟩ := dmaWrite_effect v s
    rw [hoam]
    exact { h with ppu := { h.ppu with } }
  case h_20 => exact { h with bootOff := fun hb => by simp [h.bootOff hb] }
  case h_10 | h_11 | h_12 | h_13 | h_15 | h_16 | h_17 | h_18 | h_19 => exact { h with ppu := { h.ppu with } }
  all_goals exact { h with }

theorem write8_inv {s : State} (h : s.Inv) (a : Word) (v : Byte) : (write8 a v s).Inv := by
  unfold write8
  dsimp only
  split
  next => exact { h with cart := bankControl_inv h.cart _ v }
  next hr =>
    obtain ⟨hlo, hhi⟩ := regionOf_vram.mp hr
    split
    · exact { h with ppu := { h.ppu with vram := Memory.ok_write h.ppu.vram (by omega) v } }
    · exact h
  next => exact { h with cart := xramWrite_inv h.cart _ v }
  next hr =>
    obtain ⟨hlo, hhi⟩ := regionOf_wram.mp hr
    exact { h with wram := Memory.ok_write h.wram (by omega) v }
  next hr =>
    obtain ⟨hlo, hhi⟩ := regionOf_echo.mp hr
    exact { h with wram := Memory.ok_write h.wram (by omega) v }
  next =>
    split
    · obtain ⟨oam, hoam⟩ := oamWriteByte_effect (a.toNat - 0xFE00) v s.ppu
      rw [hoam]
      exact { h with ppu := { h.ppu with } }
    · exact h
  next => exact h
  next => exact ioWrite_inv h _ v
  next hr =>
    obtain ⟨hlo, hhi⟩ := regionOf_hram.mp hr
    exact { h with hram := Memory.ok_write h.hram (by omega) v }
  next => exact { h with }

/-! The step. -/

theorem raiseFault_illegalOpcode_inv {s : State} (h : s.Inv) (a : Word) (op : Byte) : (raiseFault .illegalOpcode a op s).Inv :=
  { h with fault := fun r hr => by cases hr; rfl }

theorem finish_inv {s : State} (h : s.Inv) (ci : Nat) : (finish ci s).Inv := by
  unfold finish
  split
  · exact h
  · exact { h with ppu := ppuStep_inv _ h.ppu }

/-- Settles O60: every bus write keeps the invariant, and so do an illegal opcode and the devices, of which a step is made. -/
theorem stepKeepsInvariant : Obligations.StepKeepsInvariant := fun _ _ hs h =>
  step_keeps (P := State.Inv)
    (fun _ _ _ _ h => { h with })
    (fun _ a v h => write8_inv h a v)
    (fun _ a op h => raiseFault_illegalOpcode_inv h a op)
    (fun _ ci h => finish_inv h ci)
    hs h

end Sys2Proof.Machine
end

section
/-!
SUPPORT. Reset with accepted images (70_reset_and_hazards.md R532), and the invariant of the state after it.
-/

namespace Sys2Proof.Machine

/-- The RAM-size codes in order (21_cartridge.md R133). -/
theorem xramSizeOf_eq_getElem? (c : Byte) : xramSizeOf c = [0, 2048, 8192, 32768, 131072, 65536][c.toNat]? := by
  revert c; decide

theorem hasCartRam_eq_decide (t : Byte) : hasCartRam t = decide (t ∈ [0x02, 0x03, 0x10, 0x12, 0x13]) := by
  revert t; decide

/-- The images reset accepts, and the machine it makes of them: the profile of the boot image, the cartridge fields of the header. -/
theorem resetWith_accepted {args : ResetArgs} {kind : CartType} {size : Nat}
    (hboot : ∀ image, args.boot = some image → image.length = 256)
    (hkind : cartTypeOf (args.cart.bytes.read 0x147) = some kind)
    (hcode : (args.cart.bytes.read 0x148).toNat ≤ 8)
    (hlength : args.cart.length = 2 * 2 ^ (args.cart.bytes.read 0x148).toNat * 0x4000)
    (hsize : [0, 2048, 8192, 32768, 131072, 65536][(args.cart.bytes.read 0x149).toNat]? = some size) :
    resetWith args = .next (State.resetProfile args
      (Cart.resetWith kind (2 * 2 ^ (args.cart.bytes.read 0x148).toNat)
        (if args.cart.bytes.read 0x147 ∈ [0x02, 0x03, 0x10, 0x12, 0x13] then size else 0) args.cart args.ram)) := by
  have hheader : ¬ 2 * 2 ^ (args.cart.bytes.read 0x148).toNat * 0x4000 < 0x150 := by
    have := Nat.one_le_two_pow (n := (args.cart.bytes.read 0x148).toNat)
    omega
  rw [← xramSizeOf_eq_getElem?] at hsize
  have hbanks : romBanksOf (args.cart.bytes.read 0x148) = some (2 * 2 ^ (args.cart.bytes.read 0x148).toNat) := if_pos hcode
  unfold resetWith
  cases hb : args.boot with
  | none => simp [hheader, hkind, hbanks, hsize, hlength, hasCartRam_eq_decide]
  | some image => simp [hboot image hb, hheader, hkind, hbanks, hsize, hlength, hasCartRam_eq_decide]

/-- Without a boot image the registers have the values of P-CART (10_state.md R43). -/
theorem resetProfile_of_boot_none {args : ResetArgs} (cart : Cart) (h : args.boot = none) :
    State.resetProfile args cart =
      { cpu := Cpu.resetPCart, ifl := 0b00001, ie := 0, fault := none, boot := none, bootOff := true, cart := cart
        ppu := { Ppu.resetPCart with vram := args.ram.vram, oam := args.ram.oam, frame := args.ram.frame }
        timer := { div := 0xABCC, tima := 0, tma := 0, tacEn := false, tacSel := 0 }
        joypad := { sel := 0b11, lines := args.lines }, sb := 0, sc := 0
        wram := args.ram.wram, hram := args.ram.hram, snd := args.ram.snd, params := args.params, cycles := 0 } := by
  simp [State.resetProfile, h]

/-- With one they have the values of P-BOOT (10_state.md R42). -/
theorem resetProfile_of_boot_some {args : ResetArgs} {image : Image} (cart : Cart) (h : args.boot = some image) :
    State.resetProfile args cart =
      { cpu := Cpu.resetPBoot, ifl := 0, ie := 0, fault := none, boot := some image.bytes, bootOff := false, cart := cart
        ppu := { Ppu.resetPBoot with vram := args.ram.vram, oam := args.ram.oam, frame := args.ram.frame }
        timer := { div := 0, tima := 0, tma := 0, tacEn := false, tacSel := 0 }
        joypad := { sel := 0b11, lines := args.lines }, sb := 0, sc := 0
        wram := args.ram.wram, hram := args.ram.hram, snd := args.ram.snd, params := args.params, cycles := 0 } := by
  simp [State.resetProfile, h]

theorem read8_overlay {s : State} {image : Memory} (hboot : s.boot = some image) (hoff : s.bootOff = false) {a : Word}
    (ha : a.toNat < 0x100) : read8 a s = image.read a.toNat := by
  have hr : regionOf a = .rom := regionOf_rom.mpr (by omega)
  simp [read8, hr, bootOrRomRead, hboot, hoff, ha]

/-- Settles O56: the accepted arguments without a boot image give the profile P-CART, field by field. -/
theorem resetWithoutBootImage : Obligations.ResetWithoutBootImage := by
  intro args kind size t banks hboot hkind hcode hlength hsize
  refine ⟨_, resetWith_accepted (by simp [hboot]) hkind hcode hlength hsize, ?_⟩
  rw [resetProfile_of_boot_none _ hboot]
  exact ⟨rfl, rfl, rfl, rfl, rfl, rfl, rfl, rfl, rfl, rfl, rfl, rfl, rfl, rfl, rfl, rfl⟩

/-- Settles O57: the accepted arguments with a boot image give the profile P-BOOT, and the overlay answers below 0x0100. -/
theorem resetWithBootImage : Obligations.ResetWithBootImage := by
  intro args image kind size t banks hboot hlen hkind hcode hlength hsize
  refine ⟨_, resetWith_accepted (by simp [hboot, hlen]) hkind hcode hlength hsize, ?_⟩
  rw [resetProfile_of_boot_some _ hboot]
  exact ⟨rfl, rfl, rfl, rfl, rfl, rfl, rfl, rfl, rfl, rfl, rfl, rfl, rfl, rfl, rfl, rfl, fun n hn => read8_overlay rfl rfl hn⟩

/-! The invariant after reset. -/

@[simp] theorem Memory.ok_nil (size : Nat) : Memory.ok size [] := ⟨rfl, rfl⟩

theorem Cart.resetBlank_inv : Cart.resetBlank.Inv where
  rom := Memory.ok_nil _
  xram := Memory.ok_nil _
  bankLo := by decide
  romOnly := by decide
  mbc1 := by decide
  mbc3 := by decide

theorem Ppu.resetPCart_inv : Ppu.resetPCart.Inv where
  clock := by decide
  ly := by decide
  vblank := by decide
  off := by decide
  vram := Memory.ok_nil _
  frameRows := by simp [Ppu.resetPCart]
  frameRising := .nil

/-- Settles O59: every array is empty, and the fields stand at their P-CART values. -/
theorem resetSatisfiesInvariant : Obligations.ResetSatisfiesInvariant where
  cart := Cart.resetBlank_inv
  ppu := Ppu.resetPCart_inv
  wram := Memory.ok_nil _
  hram := Memory.ok_nil _
  snd := Memory.ok_nil _
  boot := by simp [State.reset]
  bootOff := fun _ => rfl
  fault := by simp [State.reset]

end Sys2Proof.Machine
end

section
/-!
SUPPORT. Sprite memory by bytes (62_ppu.md R470, R471) and OAM DMA (20_memory.md R101, R102).
-/

namespace Sys2Proof.Machine

/-! Sprite memory, byte by byte (62_ppu.md R470, R471). -/

/-- A sprite byte after a sprite byte is written: a flag byte keeps its upper nibble only. -/
theorem OamRecord.readByte_writeByte (r : OamRecord) (j k : Nat) (v : Byte) :
    (r.writeByte j v).readByte k = if k % 4 = j % 4 then (if k % 4 = 3 then v &&& 0xF0#8 else v) else r.readByte k := by
  have hflags : ∀ b : Byte,
      BitVec.ofBool (b.getLsbD 7) ++ (BitVec.ofBool (b.getLsbD 6) ++ (BitVec.ofBool (b.getLsbD 5) ++
        (BitVec.ofBool (b.getLsbD 4) ++ 0#4))) = b &&& 0xF0#8 := by decide
  have hj : j % 4 = 0 ∨ j % 4 = 1 ∨ j % 4 = 2 ∨ j % 4 = 3 := by omega
  have hk : k % 4 = 0 ∨ k % 4 = 1 ∨ k % 4 = 2 ∨ k % 4 = 3 := by omega
  rcases hj with hj | hj | hj | hj <;> rcases hk with hk | hk | hk | hk <;>
    simp only [writeByte, readByte, hj, hk, hflags] <;> rfl

theorem oamReadByte_oamWriteByte {j : Nat} (hj : j < 160) (v : Byte) (p : Ppu) (k : Nat) :
    oamReadByte (oamWriteByte j v p) k = if k = j then (if k % 4 = 3 then v &&& 0xF0#8 else v) else oamReadByte p k := by
  have hrec : j / 4 < 40 := by omega
  by_cases hsame : k / 4 = j / 4
  · have hk : k % 4 = j % 4 ↔ k = j := by omega
    simp [oamReadByte, oamRecord, oamWriteByte, hrec, hsame, OamRecord.readByte_writeByte, hk]
  · have hk : k ≠ j := by rintro rfl; exact hsame rfl
    simp [oamReadByte, oamRecord, oamWriteByte, hrec, hk, Vector.getElem_set_ne, Ne.symm hsame]

theorem oamOpen_oamWriteByte (k : Nat) (v : Byte) (p : Ppu) : oamOpen (oamWriteByte k v p) = oamOpen p := by
  obtain ⟨oam, h⟩ := oamWriteByte_effect k v p
  rw [h]
  rfl

/-- Sprite memory shows in its own window only. -/
theorem read8_with_oam {x : Word} (hx : regionOf x ≠ .oam) (s : State) (oam : Vector OamRecord 40) :
    read8 x { s with ppu := { s.ppu with oam := oam } } = read8 x s := by
  unfold read8
  split
  case h_6 h => exact absurd h hx
  all_goals rfl

/-! OAM DMA (20_memory.md R101). -/

/-- The copy reads each source byte as it was before the copy: where the source is sprite memory itself, byte `n` is read before it is
written. -/
theorem read8_dmaCopy {base : Word} (hbase : base.toNat % 256 = 0) {n : Nat} (hn : n < 160) {s : State}
    (hkept : oamReadByte (dmaCopy base n s).ppu n = oamReadByte s.ppu n) :
    read8 (base + BitVec.ofNat 16 n) (dmaCopy base n s) = read8 (base + BitVec.ofNat 16 n) s := by
  obtain ⟨oam, heffect⟩ := dmaCopy_effect base n s
  by_cases hr : regionOf (base + BitVec.ofNat 16 n) = .oam
  · have hoffset : (base + BitVec.ofNat 16 n).toNat - 0xFE00 = n := by
      have := regionOf_oam.mp hr
      simp only [BitVec.toNat_add, BitVec.toNat_ofNat] at this ⊢
      omega
    have hopen : oamOpen (dmaCopy base n s).ppu = oamOpen s.ppu := by rw [heffect]; rfl
    simp only [read8, hr, hoffset, hopen, hkept]
  · rw [heffect, read8_with_oam hr]

/-- After `n` of the 160 copies the first `n` bytes hold what the bus read at the source, the others what they held. -/
theorem oamReadByte_dmaCopy {base : Word} (hbase : base.toNat % 256 = 0) {n : Nat} (hn : n ≤ 160) (s : State) (k : Nat) :
    oamReadByte (dmaCopy base n s).ppu k =
      if k < n then (if k % 4 = 3 then read8 (base + BitVec.ofNat 16 k) s &&& 0xF0#8 else read8 (base + BitVec.ofNat 16 k) s)
      else oamReadByte s.ppu k := by
  induction n generalizing k with
  | zero => rfl
  | succ n ih =>
    have ih := ih (by omega)
    have hread := read8_dmaCopy hbase (n := n) (by omega) (by rw [ih, if_neg (by omega)])
    simp only [dmaCopy, hread, oamReadByte_oamWriteByte (show n < 160 by omega), ih]
    by_cases hk : k = n
    · simp [hk]
    · have : k < n + 1 ↔ k < n := by omega
      simp only [hk, this, if_false]

theorem oamReadByte_dmaWrite (v : Byte) (s : State) {k : Nat} (hk : k < 160) :
    oamReadByte (dmaWrite v s).ppu k =
      if k % 4 = 3 then read8 (BitVec.ofNat 16 (v.toNat * 256 + k)) { s with ppu := { s.ppu with dmaReg := v } } &&& 0xF0#8
      else read8 (BitVec.ofNat 16 (v.toNat * 256 + k)) { s with ppu := { s.ppu with dmaReg := v } } := by
  have hbase : (v ++ 0#8 : Word).toNat = v.toNat * 256 := by simpa [mkWord] using toNat_mkWord v 0#8
  have haddr : (v ++ 0#8 : Word) + BitVec.ofNat 16 k = BitVec.ofNat 16 (v.toNat * 256 + k) := by
    apply BitVec.eq_of_toNat_eq
    simp [BitVec.toNat_add, hbase]
  rw [dmaWrite, oamReadByte_dmaCopy (by omega) le_rfl, if_pos hk, haddr]

theorem dmaWrite_only (v : Byte) (s : State) :
    dmaWrite v s = { s with ppu := { s.ppu with dmaReg := v, oam := (dmaWrite v s).ppu.oam } } := by
  obtain ⟨oam, h⟩ := dmaWrite_effect v s
  rw [h]

/-- Settles O38: the copy reads every source byte before it writes there, so all 160 come from the state before it. -/
theorem oamDma : Obligations.OamDma := fun s v =>
  ⟨dmaWrite v s, rfl, dmaWrite_only v s, fun _ hk => oamReadByte_dmaWrite v s hk⟩

end Sys2Proof.Machine
end

section
/-!
SUPPORT. What the reads of the bus see of a register store (20_memory.md R90), and the writes the bus drops.
-/

namespace Sys2Proof.Machine

/-! What a read sees of a register store. -/

/-- A store to a register shows in that register's own read, and beside it: DIV's in TIMA and IF, LCDC's in STAT and LY, LYC's in STAT. -/
theorem ioRead_ioWrite_other {a x : Nat} (hne : x ≠ a) (hdiv : a = 0xFF04 → x ≠ 0xFF05 ∧ x ≠ 0xFF0F)
    (hlcdc : a = 0xFF40 → x ≠ 0xFF41 ∧ x ≠ 0xFF44) (hlyc : a = 0xFF45 → x ≠ 0xFF41) (v : Byte) (s : State) :
    ioRead x (ioWrite a v s) = ioRead x s := by
  obtain ⟨tima, htimer⟩ := divWrite_effect s.timer
  obtain ⟨mode, clock, ly, hppu⟩ := lcdcWrite_effect s.ppu v
  obtain ⟨oam, hdma⟩ := dmaWrite_effect v s
  simp only [ioWrite, divStore, htimer, hppu, hdma]
  split
  next =>
    unfold ioRead
    split
    · exact Memory.read_write_other _ _ (by omega)
    · rfl
  split
  all_goals
    unfold ioRead
    split
    · rfl
    -- Register by register: the read shows a field the store leaves, or it is one of the excluded ones.
    · split <;> first | rfl | simp at hne hdiv hlcdc hlyc

/-- What a store to a register leaves of the state that the reads outside the I/O window show. -/
structure IoFrame (a : Nat) (s t : State) : Prop where
  boot : t.boot = s.boot
  cart : t.cart = s.cart
  wram : t.wram = s.wram
  hram : t.hram = s.hram
  ie : t.ie = s.ie
  vram : t.ppu.vram = s.ppu.vram
  bootOff : a ≠ 0xFF50 → t.bootOff = s.bootOff
  vramOpen : a ≠ 0xFF40 → vramOpen t.ppu = vramOpen s.ppu
  oamOpen : a ≠ 0xFF40 → oamOpen t.ppu = oamOpen s.ppu
  oam : a ≠ 0xFF46 → ∀ k, oamReadByte t.ppu k = oamReadByte s.ppu k

theorem ioWrite_ioFrame (a : Nat) (v : Byte) (s : State) : IoFrame a s (ioWrite a v s) := by
  obtain ⟨mode, clock, ly, hppu⟩ := lcdcWrite_effect s.ppu v
  obtain ⟨oam, hdma⟩ := dmaWrite_effect v s
  simp only [ioWrite, hppu, hdma]
  split
  · exact ⟨rfl, rfl, rfl, rfl, rfl, rfl, fun _ => rfl, fun _ => rfl, fun _ => rfl, fun _ _ => rfl⟩
  split
  case h_9 => exact ⟨rfl, rfl, rfl, rfl, rfl, rfl, fun _ => rfl, fun h => absurd rfl h, fun h => absurd rfl h, fun _ _ => rfl⟩
  case h_14 => exact ⟨rfl, rfl, rfl, rfl, rfl, rfl, fun _ => rfl, fun _ => rfl, fun _ => rfl, fun h => absurd rfl h⟩
  case h_20 => exact ⟨rfl, rfl, rfl, rfl, rfl, rfl, fun h => absurd rfl h, fun _ => rfl, fun _ => rfl, fun _ _ => rfl⟩
  all_goals exact ⟨rfl, rfl, rfl, rfl, rfl, rfl, fun _ => rfl, fun _ => rfl, fun _ => rfl, fun _ _ => rfl⟩

/-- Outside the I/O window LCDC's store shows in video RAM and sprite memory, the DMA trigger's in sprite memory, and BOOT_OFF in the
overlay. -/
theorem IoFrame.read8_eq {a : Nat} {s t : State} (h : IoFrame a s t) {x : Word} (hio : regionOf x ≠ .io)
    (hlcdc : a = 0xFF40 → regionOf x ≠ .vram ∧ regionOf x ≠ .oam) (hdma : a = 0xFF46 → regionOf x ≠ .oam)
    (hboot : a = 0xFF50 → 0x100 ≤ x.toNat) : read8 x t = read8 x s := by
  unfold read8
  dsimp only
  split
  next =>
    simp only [bootOrRomRead, h.boot, h.cart]
    by_cases ha : a = 0xFF50
    · have hlow : ¬x.toNat < 0x100 := by have := hboot ha; omega
      simp only [hlow, false_and, if_false]
    · rw [h.bootOff ha]
  next hx => rw [h.vramOpen fun ha => (hlcdc ha).1 hx, h.vram]
  next => rw [h.cart]
  next => rw [h.wram]
  next => rw [h.wram]
  next hx => rw [h.oamOpen fun ha => (hlcdc ha).2 hx, h.oam fun ha => hdma ha hx]
  next => rfl
  next hx => exact absurd hx hio
  next => rw [h.hram]
  next => rw [h.ie]

/-- The plain registers are ten addresses. -/
theorem plainRegister_cases {n : Nat} (h : plainRegister n = true) :
    n = 0xFF01 ∨ n = 0xFF05 ∨ n = 0xFF06 ∨ n = 0xFF42 ∨ n = 0xFF43 ∨ n = 0xFF47 ∨ n = 0xFF48 ∨ n = 0xFF49 ∨ n = 0xFF4A ∨
      n = 0xFF4B := by
  simp only [plainRegister, Bool.or_eq_true, Bool.and_eq_true, decide_eq_true_eq] at h
  omega

theorem ioRead_ioWrite_plain {n : Nat} (h : plainRegister n = true) (v : Byte) (s : State) : ioRead n (ioWrite n v s) = v := by
  rcases plainRegister_cases h with rfl | rfl | rfl | rfl | rfl | rfl | rfl | rfl | rfl | rfl <;> rfl

/-- No register is stored at the unimplemented addresses (20_memory.md R99), and LY ignores a store (62_ppu.md R475). -/
theorem ioWrite_dropped {n : Nat} (h : unimplementedIo n = true ∨ n = 0xFF44) (v : Byte) (s : State) : ioWrite n v s = s := by
  unfold ioWrite
  split
  next =>
    simp only [unimplementedIo, Bool.or_eq_true, Bool.and_eq_true, decide_eq_true_eq] at h
    omega
  split
  case h_21 => rfl
  all_goals simp [unimplementedIo] at h

theorem ioRead_stub {n : Nat} (h : unimplementedIo n = true ∨ n = 0xFF50) (s : State) : ioRead n s = 0xFF := by
  unfold ioRead
  split
  next =>
    simp only [unimplementedIo, Bool.or_eq_true, Bool.and_eq_true, decide_eq_true_eq] at h
    omega
  split
  case h_21 => rfl
  all_goals simp [unimplementedIo] at h

/-- Where the bus drops a write the state is unchanged. -/
theorem write8_dropped {a : Word} {s : State} (h : writeDropped a s = true) (v : Byte) : write8 a v s = s := by
  unfold writeDropped at h
  dsimp only at h
  split at h
  next hr => simp only [write8, hr, bankControl, of_decide_eq_true h]
  next hr => simp_all [write8]
  next hr => simp_all [write8, xramWrite]
  next hr => simp_all [write8]
  next hr => simp only [write8, hr]
  next hr =>
    rw [Bool.or_eq_true, decide_eq_true_eq] at h
    simp only [write8, hr, ioWrite_dropped h]
  all_goals cases h

end Sys2Proof.Machine
end

section
/-!
SUPPORT. Plain storage as cells: what a store to a cell leaves at every address (20_memory.md R76, R82), and the store to sprite memory.
-/

namespace Sys2Proof.Machine

/-- The cells by region: `cellOf` as a relation. -/
inductive CellAt (a : Word) (s : State) : Cell → Prop
  | vram (hr : regionOf a = .vram) (hopen : vramOpen s.ppu = true) : CellAt a s (.vram (a.toNat - 0x8000))
  | xram (hr : regionOf a = .xram) (hopen : xramOpen s.cart = true) : CellAt a s (.xram (xramOffset s.cart a.toNat))
  | wram (hr : regionOf a = .wram) : CellAt a s (.wram (a.toNat - 0xC000))
  | echo (hr : regionOf a = .echo) : CellAt a s (.wram (a.toNat - 0xE000))
  | hram (hr : regionOf a = .hram) : CellAt a s (.hram (a.toNat - 0xFF80))
  | snd (hr : regionOf a = .io) (hsnd : 0xFF10 ≤ a.toNat ∧ a.toNat < 0xFF40) : CellAt a s (.snd (a.toNat - 0xFF10))
  | reg (hr : regionOf a = .io) (hplain : plainRegister a.toNat = true) : CellAt a s (.reg a.toNat)

theorem cellOf_iff {a : Word} {s : State} {c : Cell} : cellOf a s = some c ↔ CellAt a s c := by
  constructor
  · intro h
    unfold cellOf at h
    dsimp only at h
    split at h
    next hr => split at h <;> cases h; exact .vram hr ‹_›
    next hr => split at h <;> cases h; exact .xram hr ‹_›
    next hr => cases h; exact .wram hr
    next hr => cases h; exact .echo hr
    next hr => cases h; exact .hram hr
    next hr =>
      split at h
      next hsnd => cases h; exact .snd hr hsnd
      next => split at h <;> cases h; exact .reg hr ‹_›
    all_goals cases h
  · intro h
    cases h with
    | vram hr hopen => simp [cellOf, hr, hopen]
    | xram hr hopen => simp [cellOf, hr, hopen]
    | wram hr => simp [cellOf, hr]
    | echo hr => simp [cellOf, hr]
    | hram hr => simp [cellOf, hr]
    | snd hr hsnd => simp [cellOf, hr, hsnd]
    | reg hr hplain =>
      have hsnd : ¬(0xFF10 ≤ a.toNat ∧ a.toNat < 0xFF40) := by have := plainRegister_cases hplain; omega
      simp only [cellOf, hr, hsnd, hplain, if_false, if_true]

/-- The state after `v` is stored in a cell. -/
def Cell.write (c : Cell) (v : Byte) (s : State) : State :=
  match c with
  | .vram k => { s with ppu := { s.ppu with vram := s.ppu.vram.write k v } }
  | .xram k => { s with cart := { s.cart with xram := s.cart.xram.write k v } }
  | .wram k => { s with wram := s.wram.write k v }
  | .hram k => { s with hram := s.hram.write k v }
  | .snd k => { s with snd := s.snd.write k v }
  | .reg k => ioWrite k v s

theorem CellAt.write8_eq {a : Word} {s : State} {c : Cell} (h : CellAt a s c) (v : Byte) : write8 a v s = c.write v s := by
  cases h with
  | vram hr hopen => simp only [write8, hr, hopen, if_true, Cell.write]
  | xram hr hopen => simp only [write8, hr, xramWrite, hopen, if_true, Cell.write]
  | wram hr => simp only [write8, hr, Cell.write]
  | echo hr => simp only [write8, hr, Cell.write]
  | hram hr => simp only [write8, hr, Cell.write]
  | snd hr hsnd => simp only [write8, hr, ioWrite, if_pos hsnd, Cell.write]
  | reg hr => simp only [write8, hr, Cell.write]

/-- Every address of a cell reads the byte stored there. -/
theorem CellAt.read8_write {x : Word} {s : State} {c : Cell} (h : CellAt x s c) (v : Byte) : read8 x (c.write v s) = v := by
  cases h with
  | vram hr hopen => simp only [read8, hr, Cell.write]; exact (if_pos hopen).trans (Memory.read_write_same _ _ _)
  | xram hr hopen => simp only [read8, hr, Cell.write]; exact (if_pos hopen).trans (Memory.read_write_same _ _ _)
  | wram hr => simp only [read8, hr, Cell.write, Memory.read_write_same]
  | echo hr => simp only [read8, hr, Cell.write, Memory.read_write_same]
  | hram hr => simp only [read8, hr, Cell.write, Memory.read_write_same]
  | snd hr hsnd => simp only [read8, hr, ioRead, if_pos hsnd, Cell.write, Memory.read_write_same]
  | reg hr hplain => simp only [read8, hr, Cell.write, ioRead_ioWrite_plain hplain]

/-- Every other address reads as before. -/
theorem CellAt.read8_write_other {a x : Word} {s : State} {c : Cell} (h : CellAt a s c) (hx : ¬CellAt x s c) (v : Byte) :
    read8 x (c.write v s) = read8 x s := by
  cases c with
  | vram k =>
    unfold read8
    split
    case h_2 hr =>
      refine if_ctx_congr Iff.rfl (fun hopen => Memory.read_write_other _ _ ?_) (fun _ => rfl)
      rintro rfl
      exact hx (.vram hr hopen)
    all_goals rfl
  | xram k =>
    unfold read8
    split
    case h_3 hr =>
      refine if_ctx_congr Iff.rfl (fun hopen => Memory.read_write_other _ _ ?_) (fun _ => rfl)
      exact fun hk => hx ((show xramOffset s.cart x.toNat = k from hk) ▸ .xram hr hopen)
    all_goals rfl
  | wram k =>
    unfold read8
    split
    case h_4 hr => exact Memory.read_write_other _ _ (by rintro rfl; exact hx (.wram hr))
    case h_5 hr => exact Memory.read_write_other _ _ (by rintro rfl; exact hx (.echo hr))
    all_goals rfl
  | hram k =>
    unfold read8
    split
    case h_9 hr => exact Memory.read_write_other _ _ (by rintro rfl; exact hx (.hram hr))
    all_goals rfl
  | snd k =>
    unfold read8
    split
    case h_8 hr =>
      refine if_ctx_congr Iff.rfl (fun hsnd => Memory.read_write_other _ _ ?_) (fun _ => rfl)
      rintro rfl
      exact hx (.snd hr hsnd)
    all_goals rfl
  | reg k =>
    cases h with
    | reg hr hplain =>
      have hcases := plainRegister_cases hplain
      by_cases hio : regionOf x = .io
      · have hne : x.toNat ≠ a.toNat := fun h => hx (h ▸ .reg hio (h ▸ hplain))
        simp only [read8, hio, Cell.write]
        exact ioRead_ioWrite_other hne (by omega) (by omega) (by omega) v s
      · exact (ioWrite_ioFrame _ v s).read8_eq hio (by omega) (by omega) (by omega)

/-- A store to plain storage: the addresses of the cell read the byte, the others as before. -/
theorem read8_write8_cell {a : Word} {s : State} {c : Cell} (h : cellOf a s = some c) (v : Byte) (x : Word) :
    read8 x (write8 a v s) = if cellOf x s = some c then v else read8 x s := by
  have ha := cellOf_iff.mp h
  rw [ha.write8_eq]
  split
  next hx => exact (cellOf_iff.mp hx).read8_write v
  next hx => exact ha.read8_write_other (mt cellOf_iff.mpr hx) v

/-- A store to open sprite memory: that byte alone. -/
theorem read8_write8_oam {a : Word} {s : State} (hr : regionOf a = .oam) (hopen : oamOpen s.ppu = true) (v : Byte) (x : Word) :
    read8 x (write8 a v s) = if x = a then (if a.toNat % 4 = 3 then v &&& 0xF0#8 else v) else read8 x s := by
  obtain ⟨hlo, hhi⟩ := regionOf_oam.mp hr
  simp only [write8, hr, hopen, if_true]
  by_cases hx : regionOf x = .oam
  · obtain ⟨hxlo, hxhi⟩ := regionOf_oam.mp hx
    have hoffset : x.toNat - 0xFE00 = a.toNat - 0xFE00 ↔ x = a := by rw [← BitVec.toNat_inj]; omega
    have hflags : (a.toNat - 0xFE00) % 4 = 3 ↔ a.toNat % 4 = 3 := by omega
    have hj : a.toNat - 0xFE00 < 160 := by omega
    simp only [read8, hx, oamOpen_oamWriteByte, hopen, if_true, oamReadByte_oamWriteByte hj, hoffset]
    split
    next hxa => subst hxa; simp only [hflags]
    next => rfl
  · obtain ⟨oam, h⟩ := oamWriteByte_effect (a.toNat - 0xFE00) v s.ppu
    rw [h, read8_with_oam hx, if_neg]
    rintro rfl
    exact hx hr

end Sys2Proof.Machine
end

section
/-!
SUPPORT. The addresses no bus write touches (20_memory.md R71).
-/

namespace Sys2Proof.Machine

/-- What `storeTouches` excludes, case by case. -/
structure Untouched (a x : Word) (s : State) : Prop where
  ne : x ≠ a
  cell : ∀ c, cellOf a s = some c → cellOf x s ≠ some c
  bank : a.toNat < 0x8000 → x.toNat < 0x4000 ∨ (0x8000 ≤ x.toNat ∧ x.toNat < 0xA000) ∨ 0xC000 ≤ x.toNat
  div : a.toNat = 0xFF04 → x.toNat ≠ 0xFF05 ∧ x.toNat ≠ 0xFF0F
  lcdc : a.toNat = 0xFF40 → (x.toNat ≠ 0xFF41 ∧ x.toNat ≠ 0xFF44) ∧ regionOf x ≠ .vram ∧ regionOf x ≠ .oam
  lyc : a.toNat = 0xFF45 → x.toNat ≠ 0xFF41
  dma : a.toNat = 0xFF46 → regionOf x ≠ .oam
  boot : a.toNat = 0xFF50 → 0x100 ≤ x.toNat

theorem untouched_of_storeTouches {a x : Word} {s : State} (h : storeTouches a x s = false) : Untouched a x s := by
  simp only [storeTouches, Bool.or_eq_false_iff, Bool.and_eq_false_iff, decide_eq_false_iff_not] at h
  obtain ⟨⟨hne, hcell⟩, hrest⟩ := h
  refine ⟨hne, fun c hc hx => by simp [hc, hx] at hcell, ?_, ?_, ?_, ?_, ?_, ?_⟩
  case refine_1 => intro ha; simp [ha] at hrest; omega
  all_goals
    intro ha
    simp [ha, regionOf_vram, regionOf_oam] at hrest ⊢
    omega

theorem bankControl_untouched {x : Word} (hx : x.toNat < 0x4000 ∨ (0x8000 ≤ x.toNat ∧ x.toNat < 0xA000) ∨ 0xC000 ≤ x.toNat)
    (a : Nat) (v : Byte) (s : State) : read8 x { s with cart := bankControl s.cart a v } = read8 x s := by
  obtain ⟨en, lo, hi, mode, h⟩ := bankControl_effect s.cart a v
  rw [h]
  unfold read8
  split
  case h_1 hr =>
    have hlow : x.toNat < 0x4000 := by have := regionOf_rom.mp hr; omega
    simp only [bootOrRomRead, romRead, romOffset, hlow, if_true]
  case h_3 hr => have := regionOf_xram.mp hr; omega
  all_goals rfl

/-- No bus write changes what an untouched address reads as. -/
theorem Untouched.read8_write8 {a x : Word} {s : State} (h : Untouched a x s) (v : Byte) : read8 x (write8 a v s) = read8 x s := by
  by_cases hdrop : writeDropped a s = true
  · rw [write8_dropped hdrop]
  cases hcell : cellOf a s with
  | some c => rw [read8_write8_cell hcell, if_neg (h.cell c hcell)]
  | none =>
    cases hr : regionOf a with
    | rom =>
      simp only [write8, hr]
      exact bankControl_untouched (h.bank (regionOf_rom.mp hr)) _ v s
    | oam => rw [read8_write8_oam hr (by simpa [writeDropped, hr] using hdrop), if_neg h.ne]
    | io =>
      simp only [write8, hr]
      by_cases hio : regionOf x = .io
      · simp only [read8, hio]
        exact ioRead_ioWrite_other (mt BitVec.eq_of_toNat_eq h.ne) h.div (fun ha => (h.lcdc ha).1) h.lyc v s
      · exact (ioWrite_ioFrame _ v s).read8_eq hio (fun ha => (h.lcdc ha).2) h.dma h.boot
    | ie =>
      simp only [write8, hr]
      unfold read8
      split
      case h_10 hx => exact absurd (BitVec.eq_of_toNat_eq ((regionOf_ie.mp hx).trans (regionOf_ie.mp hr).symm)) h.ne
      all_goals rfl
    | vram => simp_all [cellOf, writeDropped]
    | xram => simp_all [cellOf, writeDropped]
    | wram => simp [cellOf, hr] at hcell
    | echo => simp [cellOf, hr] at hcell
    | unused => simp [writeDropped, hr] at hdrop
    | hram => simp [cellOf, hr] at hcell

theorem storedByte_write8 (a : Word) (v : Byte) (s : State) : StoredByte a v s (write8 a v s) :=
  ⟨fun _ hc => read8_write8_cell hc v, fun hr hopen => read8_write8_oam hr hopen v, fun hdrop x => by rw [write8_dropped hdrop]⟩

/-- Settles O31: plain storage by cells, sprite memory byte by byte, and the rest by what each register shows in. -/
theorem busWrites : Obligations.BusWrites := fun s a v =>
  have hframe := write8_frame a v s
  ⟨storedByte_write8 a v s, fun hdrop => write8_dropped hdrop v, fun _ hx => (untouched_of_storeTouches hx).read8_write8 v,
    hframe.cpu, hframe.rom, hframe.boot, hframe.frame, hframe.fault⟩

end Sys2Proof.Machine
end

section
/-!
SUPPORT. The echo and the ROM window as reads.
-/

namespace Sys2Proof.Machine

/-! The echo (20_memory.md R82). -/

theorem cellOf_wram {a : Word} (h : 0xC000 ≤ a.toNat) (h' : a.toNat < 0xE000) (s : State) :
    cellOf a s = some (.wram (a.toNat - 0xC000)) := cellOf_iff.mpr (.wram (regionOf_wram.mpr ⟨h, h'⟩))

theorem cellOf_echo {a : Word} (h : 0xE000 ≤ a.toNat) (h' : a.toNat < 0xFE00) (s : State) :
    cellOf a s = some (.wram (a.toNat - 0xE000)) := cellOf_iff.mpr (.echo (regionOf_echo.mpr ⟨h, h'⟩))

/-- Settles O32: both addresses are cell `o` of work RAM, and the last 0x200 cells have no echo address. -/
theorem echoOfWorkRam : Obligations.EchoOfWorkRam := by
  intro s o v ho
  have hram : (BitVec.ofNat 16 (0xC000 + o)).toNat = 0xC000 + o := Nat.mod_eq_of_lt (by omega)
  have hecho : (BitVec.ofNat 16 (0xE000 + o)).toNat = 0xE000 + o := Nat.mod_eq_of_lt (by omega)
  have cram : cellOf (BitVec.ofNat 16 (0xC000 + o)) s = some (.wram o) := by
    rw [cellOf_wram (by omega) (by omega), hram, Nat.add_sub_cancel_left]
  have cecho : cellOf (BitVec.ofNat 16 (0xE000 + o)) s = some (.wram o) := by
    rw [cellOf_echo (by omega) (by omega), hecho, Nat.add_sub_cancel_left]
  refine ⟨by rw [read8_write8_cell cram, if_pos cecho], by rw [read8_write8_cell cecho, if_pos cram], ?_, fun w hlo hhi => ?_⟩
  · have rram : regionOf (BitVec.ofNat 16 (0xC000 + o)) = .wram := regionOf_wram.mpr (by omega)
    have recho : regionOf (BitVec.ofNat 16 (0xE000 + o)) = .echo := regionOf_echo.mpr (by omega)
    simp only [read8, rram, recho, hram, hecho, Nat.add_sub_cancel_left]
  · have hne : some (Cell.wram o) ≠ some (.wram (w.toNat - 0xC000)) := by simp; omega
    rw [read8_write8_cell (cellOf_wram (by omega) hhi s), cecho, if_neg hne]

/-! The ROM window (20_memory.md R77, 21_cartridge.md R136, R137). -/

theorem bootOrRomRead_uncovered {s : State} {n : Nat} (h : s.bootOff = true ∨ 0x100 ≤ n) : bootOrRomRead n s = romRead s.cart n := by
  unfold bootOrRomRead
  split
  · exact if_neg (by rintro ⟨hlow, hoff⟩; simp [hoff] at h; omega)
  · rfl

/-- Settles O34: the overlay where it covers, else the image at the offset of `romRead`. -/
theorem romWindowReads : Obligations.RomWindowReads := by
  intro s a ha c lo bank
  have hr : regionOf a = .rom := regionOf_rom.mpr ha
  have hbank : romBank c = bank := by
    simp only [romBank, bank, lo]
    cases c.kind <;> simp [BitVec.extractLsb'_toNat]
  refine ⟨fun image himage hoff hlow => read8_overlay himage hoff hlow, fun hopen hlow => ?_, fun hhigh => ?_⟩
  · simp only [read8, hr, bootOrRomRead_uncovered hopen, romRead, romOffset, hlow, if_true]
    rfl
  · have hoffset : romOffset c a.toNat = bank * 0x4000 + a.toNat - 0x4000 := by
      rw [romOffset, if_neg (by omega), hbank]; omega
    simp only [read8, hr, bootOrRomRead_uncovered (Or.inr (show 0x100 ≤ a.toNat by omega)), romRead]
    rw [← hoffset]

end Sys2Proof.Machine
end

section
/-!
SUPPORT. What the device registers read as, and what a store to one changes (20_memory.md R90).
-/

namespace Sys2Proof.Machine

/-! What the device registers read as (20_memory.md R90). -/

theorem p1Read_bits (j : Joypad) : p1Read j &&& 0xC0 = 0xC0 ∧ (p1Read j).toNat / 16 = 12 + j.sel.toNat := by
  have hall : ∀ (sel : BitVec 2) (low : BitVec 4),
      (0b11#2 ++ (sel ++ low) : Byte) &&& 0xC0 = 0xC0 ∧ (0b11#2 ++ (sel ++ low) : Byte).toNat / 16 = 12 + sel.toNat := by decide
  exact hall j.sel (p1Low j)

theorem tacRead_bits (t : Timer) : tacRead t &&& 0xF8 = 0xF8 ∧ (tacRead t).toNat = 0xF8 + 4 * t.tacEn.toNat + t.tacSel.toNat := by
  have hall : ∀ (en : Bool) (sel : BitVec 2),
      (0b11111#5 ++ (BitVec.ofBool en ++ sel) : Byte) &&& 0xF8 = 0xF8 ∧
        (0b11111#5 ++ (BitVec.ofBool en ++ sel) : Byte).toNat = 0xF8 + 4 * en.toNat + sel.toNat := by decide
  exact hall t.tacEn t.tacSel

/-- IF and IE: five stored bits below three that read 1 (60_exceptions.md R405, R406). -/
theorem interruptRead_bits (i : BitVec 5) :
    (0b111#3 ++ i : Byte) &&& 0xE0 = 0xE0 ∧ (0b111#3 ++ i : Byte).toNat = 0xE0 + i.toNat := by
  revert i; decide

theorem statRead_bits (p : Ppu) :
    statRead p &&& 0x80 = 0x80 ∧
      (statRead p).toNat = 0x80 + 8 * p.statEn.toNat + (if p.ly = p.lyc then 4 else 0) + p.mode.bits.toNat := by
  have hall : ∀ (en : BitVec 4) (same : Bool) (mode : BitVec 2),
      (1#1 ++ (en ++ (BitVec.ofBool same ++ mode)) : Byte) &&& 0x80 = 0x80 ∧
        (1#1 ++ (en ++ (BitVec.ofBool same ++ mode)) : Byte).toNat =
          0x80 + 8 * en.toNat + (if same = true then 4 else 0) + mode.toNat := by decide
  simpa only [statRead, decide_eq_true_eq] using hall p.statEn (decide (p.ly = p.lyc)) p.mode.bits

theorem read8_stub {a : Word} {s : State} (h : stubRead a s = true) : read8 a s = 0xFF := by
  unfold stubRead at h
  dsimp only at h
  split at h
  next hr => simp_all [read8]
  next hr => simp_all [read8, xramRead]
  next hr => simp_all [read8]
  next hr => simp only [read8, hr]
  next hr =>
    rw [Bool.or_eq_true, decide_eq_true_eq] at h
    simp only [read8, hr, ioRead_stub h]
  all_goals cases h

/-- Settles O36: the stub by region, every other read by the register's own law. -/
theorem stubReads : Obligations.StubReads := by
  intro s a
  obtain ⟨hp1, hp1sel⟩ := p1Read_bits s.joypad
  obtain ⟨htac, htacval⟩ := tacRead_bits s.timer
  obtain ⟨hif, hifval⟩ := interruptRead_bits s.ifl
  obtain ⟨hie, hieval⟩ := interruptRead_bits s.ie
  obtain ⟨hstat, hstatval⟩ := statRead_bits s.ppu
  have hsc : ∀ v : Byte, (v ||| 0x7E) &&& 0x7E = 0x7E := by decide
  have hdiv : (s.timer.div.extractLsb' 8 8).toNat = s.timer.div.toNat / 256 := toNat_hiByte s.timer.div
  have hmode : s.ppu.mode.bits.toNat = match s.ppu.mode with | .hblank => 0 | .vblank => 1 | .oamSearch => 2 | .transfer => 3 := by
    cases s.ppu.mode <;> rfl
  rw [hmode] at hstatval
  exact ⟨read8_stub, hp1, hsc s.sc, htac, hif, hstat, hie, hp1sel, rfl, rfl, hdiv, rfl, rfl, htacval, hifval, hieval, hstatval,
    rfl, rfl, rfl, rfl, rfl, rfl, rfl, rfl, rfl, rfl, rfl⟩

/-! Stores to the device registers (20_memory.md R90). -/

theorem p1Read_p1Write (j : Joypad) (v : Byte) : p1Read (p1Write j v) &&& 0xF0 = (v ||| 0xC0) &&& 0xF0 := by
  have hlines : ∀ (sel : BitVec 2) (low : BitVec 4), (0b11#2 ++ (sel ++ low) : Byte) &&& 0xF0 = 0b11#2 ++ (sel ++ 0#4) := by decide
  have hsel : ∀ v : Byte, (0b11#2 ++ (v.extractLsb' 4 2 ++ 0#4) : Byte) = (v ||| 0xC0) &&& 0xF0 := by decide
  exact (hlines _ _).trans (hsel v)

theorem tacRead_tacWrite (t : Timer) (v : Byte) : tacRead (tacWrite t v) = v ||| 0xF8 := by
  have hall : ∀ v : Byte, (0b11111#5 ++ (BitVec.ofBool (v.getLsbD 2) ++ v.extractLsb' 0 2) : Byte) = v ||| 0xF8 := by decide
  exact hall v

theorem statRead_statWrite (p : Ppu) (v : Byte) : statRead (statWrite p v) = (v &&& 0x78) ||| (statRead p &&& 0x87) := by
  have hdriven : ∀ (en : BitVec 4) (low : BitVec 3), (1#1 ++ (en ++ low) : Byte) &&& 0x87 = 1#1 ++ (0#4 ++ low) := by decide
  have hjoin : ∀ (en : BitVec 4) (low : BitVec 3),
      (1#1 ++ (en ++ low) : Byte) = (0#1 ++ (en ++ 0#3)) ||| (1#1 ++ (0#4 ++ low)) := by decide
  have hstored : ∀ v : Byte, (0#1 ++ (v.extractLsb' 3 4 ++ 0#3) : Byte) = v &&& 0x78 := by decide
  rw [← hstored]
  exact (hjoin _ _).trans (congrArg (_ ||| ·) (hdriven p.statEn _).symm)

theorem interruptRead_store (v : Byte) : (0b111#3 ++ v.extractLsb' 0 5 : Byte) = v ||| 0xE0 := by
  revert v; decide

/-- A field of a stored byte as a number. -/
theorem extractLsb'_eq_ofNat (v : Byte) (i n : Nat) : v.extractLsb' i n = BitVec.ofNat n (v.toNat / 2 ^ i % 2 ^ n) := by
  apply BitVec.eq_of_toNat_eq
  simp [Nat.shiftRight_eq_div_pow]

/-- Settles O37: each field of the stored byte as a number, then register by register. -/
theorem registerStores : Obligations.RegisterStores := by
  intro s v
  have hlcdc : (lcdcWrite s.ppu v).lcdc = v := by
    obtain ⟨_, _, _, h⟩ := lcdcWrite_effect s.ppu v
    rw [h]
  have hdiv : (divWrite s.timer).1.div.extractLsb' 8 8 = 0 := by
    obtain ⟨_, h⟩ := divWrite_effect s.timer
    simp [h]
  have hdma : (dmaWrite v s).ppu.dmaReg = v := by
    obtain ⟨_, h⟩ := dmaWrite_effect v s
    rw [h]
  have hlow5 : v.extractLsb' 0 5 = BitVec.ofNat 5 (v.toNat % 32) := by simpa using extractLsb'_eq_ofNat v 0 5
  have hsel : v.extractLsb' 4 2 = BitVec.ofNat 2 (v.toNat / 16 % 4) := extractLsb'_eq_ofNat v 4 2
  have htacEn : v.getLsbD 2 = decide (v.toNat / 4 % 2 = 1) := by
    rw [BitVec.getLsbD, Nat.testBit_eq_decide_div_mod_eq]
  have htacSel : v.extractLsb' 0 2 = BitVec.ofNat 2 (v.toNat % 4) := by simpa using extractLsb'_eq_ofNat v 0 2
  have hstatEn : v.extractLsb' 3 4 = BitVec.ofNat 4 (v.toNat / 8 % 16) := extractLsb'_eq_ofNat v 3 4
  have hboot : (s.bootOff || decide (v ≠ 0)) = if v = 0 then s.bootOff else true := by
    split <;> simp_all
  rw [← hlow5, ← hsel, ← htacEn, ← htacSel, ← hstatEn, ← hboot]
  exact ⟨interruptRead_store v, interruptRead_store v, tacRead_tacWrite s.timer v, rfl, rfl, p1Read_p1Write s.joypad v,
    statRead_statWrite s.ppu v, rfl, hlcdc, hdiv, hdma, rfl, rfl, rfl, rfl, rfl, rfl, rfl, rfl, rfl, rfl, rfl, rfl, rfl, rfl, rfl, rfl,
    rfl, rfl, rfl⟩

end Sys2Proof.Machine
end

section
/-!
SUPPORT. The cartridge on the bus: the bank-control fields as numbers, and the gate of cartridge RAM (21_cartridge.md).
-/

namespace Sys2Proof.Machine

/-! Bank control (21_cartridge.md R140 to R149). -/

/-- The enable nibble (R142, R146). -/
theorem ramEnable_eq (v : Byte) : decide (v.extractLsb' 0 4 = 0xA#4) = decide (v.toNat % 16 = 10) := by
  simp [← BitVec.toNat_inj]

/-- The bank an Mbc1 write selects (R143): 0 becomes 1. -/
theorem mbc1_bankLo_toNat (v : Byte) :
    (if v.extractLsb' 0 5 = 0 then 1 else (v.extractLsb' 0 5).setWidth 7 : BitVec 7).toNat =
      if v.toNat % 32 = 0 then 1 else v.toNat % 32 := by
  revert v; decide

/-- The bank an Mbc3 write selects (R147): 0 becomes 1. -/
theorem mbc3_bankLo_toNat (v : Byte) :
    (if v.extractLsb' 0 7 = 0 then 1 else v.extractLsb' 0 7 : BitVec 7).toNat =
      if v.toNat % 128 = 0 then 1 else v.toNat % 128 := by
  revert v; decide

theorem mbc1_bankHi_toNat (v : Byte) : ((v.extractLsb' 0 2).setWidth 4).toNat = v.toNat % 4 := by
  revert v; decide

theorem bankMode_eq (v : Byte) : v.getLsbD 0 = decide (v.toNat % 2 = 1) := by
  simp [BitVec.getLsbD, Nat.testBit_eq_decide_div_mod_eq]

theorem bankControl_romOnly {c : Cart} (hk : c.kind = .romOnly) (n : Nat) (v : Byte) : bankControl c n v = c := by
  simp only [bankControl, hk]

/-- The four sub-ranges of Mbc1 (R142 to R145), one field each. -/
theorem bankControl_mbc1 {c : Cart} (hk : c.kind = .mbc1) (n : Nat) (v : Byte) :
    (bankControl c n v).ramEn = (if n < 0x2000 then decide (v.toNat % 16 = 10) else c.ramEn) ∧
    (bankControl c n v).bankLo.toNat =
      (if 0x2000 ≤ n ∧ n < 0x4000 then (if v.toNat % 32 = 0 then 1 else v.toNat % 32) else c.bankLo.toNat) ∧
    (bankControl c n v).bankHi.toNat = (if 0x4000 ≤ n ∧ n < 0x6000 then v.toNat % 4 else c.bankHi.toNat) ∧
    (bankControl c n v).bankMode = (if 0x6000 ≤ n then decide (v.toNat % 2 = 1) else c.bankMode) := by
  simp only [bankControl, hk, ramEnable_eq, bankMode_eq]
  split
  · simp (disch := omega) only [if_pos, if_neg, and_self]
  split
  · simp (disch := omega) only [if_pos, if_neg, mbc1_bankLo_toNat, and_self]
  split
  · simp (disch := omega) only [if_pos, if_neg, mbc1_bankHi_toNat, and_self]
  · simp (disch := omega) only [if_pos, if_neg, and_self]

/-- The three sub-ranges of Mbc3 that name a field (R146 to R148). -/
theorem bankControl_mbc3 {c : Cart} (hk : c.kind = .mbc3) (n : Nat) (v : Byte) :
    (bankControl c n v).ramEn = (if n < 0x2000 then decide (v.toNat % 16 = 10) else c.ramEn) ∧
    (bankControl c n v).bankLo.toNat =
      (if 0x2000 ≤ n ∧ n < 0x4000 then (if v.toNat % 128 = 0 then 1 else v.toNat % 128) else c.bankLo.toNat) ∧
    (bankControl c n v).bankHi.toNat = (if 0x4000 ≤ n ∧ n < 0x6000 then v.toNat % 16 else c.bankHi.toNat) ∧
    (bankControl c n v).bankMode = c.bankMode := by
  simp only [bankControl, hk, ramEnable_eq]
  split
  · simp (disch := omega) only [if_pos, if_neg, and_self]
  split
  · simp (disch := omega) only [if_pos, if_neg, mbc3_bankLo_toNat, and_self]
  split
  · simp (disch := omega) only [if_pos, if_neg, BitVec.extractLsb'_toNat, Nat.shiftRight_zero, Nat.reducePow, and_self]
  · simp (disch := omega) only [if_pos, if_neg, and_self]

/-- Settles O33: a store in the ROM region is `bankControl`, whose fields each controller's law gives. -/
theorem bankControlWrites : Obligations.BankControlWrites := by
  intro s a v ha n c en
  refine ⟨bankControl c n v, ?_, ?_, fun hk => bankControl_romOnly hk n v, fun hk => bankControl_mbc1 hk n v,
    fun hk => bankControl_mbc3 hk n v⟩
  · simp only [write8, regionOf_rom.mpr ha, n, c]
  · obtain ⟨_, _, _, _, h⟩ := bankControl_effect c n v
    rw [h]

/-! Cartridge RAM (21_cartridge.md R135, R136, R138, R139). -/

/-- The gate of R138 in words. -/
theorem xramOpen_eq_false_iff (c : Cart) :
    xramOpen c = false ↔ c.ramEn = false ∨ c.xramSize = 0 ∨ (c.kind = .mbc3 ∧ ramBank c > 3) := by
  simp only [xramOpen, Bool.and_eq_false_iff, Bool.not_eq_false', Bool.and_eq_true, decide_eq_true_eq, decide_eq_false_iff_not,
    not_not, or_assoc]

/-- Settles O35: shut, the bus stubs the read and drops the write; open, the address is one cell of cartridge RAM. -/
theorem cartridgeRamGate : Obligations.CartridgeRamGate := by
  intro s a v hlo hhi c bank k shut
  have hr : regionOf a = .xram := regionOf_xram.mpr ⟨hlo, hhi⟩
  have hbank : ramBank c = bank := by
    simp only [ramBank, bank]
    cases c.kind <;> simp
  have hgate : xramOpen c = false ↔ shut := by
    rw [xramOpen_eq_false_iff, hbank]
  have hoffset : xramOffset c a.toNat = k := by
    rw [xramOffset, hbank]
  refine ⟨fun hshut => ?_, fun hopen => ?_⟩
  · have hclosed : xramOpen s.cart = false := hgate.mpr hshut
    exact ⟨read8_stub (by simp [stubRead, hr, hclosed]), write8_dropped (by simp [writeDropped, hr, hclosed]) v⟩
  · have hopen : xramOpen s.cart = true := by simpa using mt hgate.mp hopen
    have hcell : CellAt a s (.xram k) := hoffset ▸ .xram hr hopen
    refine ⟨?_, hcell.write8_eq v, by rw [hcell.write8_eq, hcell.read8_write]⟩
    simp only [read8, hr, xramRead, hopen, if_true]
    rw [← hoffset]

end Sys2Proof.Machine
end

section
/-!
SUPPORT. The decoder against the encoder, opcode by opcode and back (30_encoding.md).
-/

namespace Sys2Proof

/-! The operand word (R161). -/

theorem immHi_append_immLo (nn : Word) : immHi nn ++ immLo nn = nn := Machine.mkWord_hi_lo nn

theorem immLo_append (hi lo : Byte) : immLo (hi ++ lo) = lo := Machine.loByte_mkWord hi lo

theorem immHi_append (hi lo : Byte) : immHi (hi ++ lo) = hi := Machine.hiByte_mkWord hi lo

/-! What `decode` does with bytes: the first decides the length, the instruction is `decodeBytes` of it and the two after it. -/

theorem decode_cons_of_le {op : Byte} {rest : List Byte} (h : opLength op ≤ rest.length + 1) :
    decode (op :: rest) = .ok (decodeBytes op (rest.getD 0 0) (rest.getD 1 0), rest.drop (opLength op - 1)) := by
  rw [decode, if_neg (Nat.not_lt.mpr h)]

theorem decode_cons_of_lt {op : Byte} {rest : List Byte} (h : rest.length + 1 < opLength op) :
    decode (op :: rest) = .error (.truncated op) := by
  rw [decode, if_pos h]

theorem decode_cons_eq_ok_iff {op : Byte} {rest : List Byte} {r : Instr × List Byte} :
    decode (op :: rest) = .ok r ↔ opLength op ≤ rest.length + 1 ∧
      (decodeBytes op (rest.getD 0 0) (rest.getD 1 0), rest.drop (opLength op - 1)) = r := by
  obtain h | h := Nat.lt_or_ge (rest.length + 1) (opLength op)
  · simp [decode_cons_of_lt h, h]
  · simp [decode_cons_of_le h, h]

/-! Bytes to instruction and back to bytes. -/

/-- The opcode with fields x, y and z (R162). -/
def opcodeOf (x : Fin 4) (y z : Fin 8) : Byte := BitVec.ofNat 8 (64 * x + 8 * y + z)

theorem opcodeOf_fields (op : Byte) : opcodeOf (fieldX op) (fieldY op) (fieldZ op) = op := by
  revert op; decide

/-- `i` is a well-formed instruction whose bytes are the opcode `op` and then as many bytes of `nn`, the low one first, as the length of
`op` says (R161, R175). -/
def EncodesAs (i : Instr) (op : Byte) (nn : Word) : Prop :=
  i.wf = true ∧ encode i = op :: [immLo nn, immHi nn].take (opLength op - 1)

theorem EncodesAs.of_fieldX {i : Instr} {op : Byte} {nn : Word} {x : Fin 4} (hx : fieldX op = x)
    (h : EncodesAs i (opcodeOf x (fieldY op) (fieldZ op)) nn) : EncodesAs i op nn := by
  rwa [← hx, opcodeOf_fields] at h

theorem decodeX0_encodesAs (y z : Fin 8) {n : Byte} {nn : Word} (hn : immLo nn = n) :
    EncodesAs (decodeX0 y z n nn) (opcodeOf 0 y z) nn := by
  subst hn
  fin_cases z <;> fin_cases y <;> exact ⟨rfl, rfl⟩

theorem decodeX1_encodesAs (y z : Fin 8) (nn : Word) : EncodesAs (decodeX1 y z) (opcodeOf 1 y z) nn := by
  fin_cases y <;> fin_cases z <;> exact ⟨rfl, rfl⟩

theorem decodeX2_encodesAs (y z : Fin 8) (nn : Word) : EncodesAs (decodeX2 y z) (opcodeOf 2 y z) nn := by
  fin_cases y <;> fin_cases z <;> exact ⟨rfl, rfl⟩

/-- The extended space (R172). -/
theorem decodeExtended_wf_encode (op2 : Byte) : (decodeExtended op2).wf = true ∧ encode (decodeExtended op2) = [0xCB, op2] := by
  revert op2; decide

theorem decodeX3_encodesAs (y z : Fin 8) {n : Byte} {nn : Word} (hn : immLo nn = n) :
    EncodesAs (decodeX3 y z n nn) (opcodeOf 3 y z) nn := by
  subst hn
  match z with
  | 3 =>
    match y with
    | 1 => exact decodeExtended_wf_encode (immLo nn)
    | 0 | 2 | 3 | 4 | 5 | 6 | 7 => exact ⟨rfl, rfl⟩
  | 0 | 1 | 2 | 4 | 5 | 6 | 7 => fin_cases y <;> exact ⟨rfl, rfl⟩

/-- Field x chooses the quarter of the opcode map (R170), and each quarter has its lemma. -/
theorem decodeBytes_encodesAs (op b1 b2 : Byte) : EncodesAs (decodeBytes op b1 b2) op (b2 ++ b1) := by
  unfold decodeBytes
  split
  next hx => exact .of_fieldX hx (decodeX0_encodesAs _ _ (immLo_append b2 b1))
  next hx => exact .of_fieldX hx (decodeX1_encodesAs _ _ _)
  next hx => exact .of_fieldX hx (decodeX2_encodesAs _ _ _)
  next hx => exact .of_fieldX hx (decodeX3_encodesAs _ _ (immLo_append b2 b1))

theorem decodeBytes_wf (op b1 b2 : Byte) : (decodeBytes op b1 b2).wf = true := (decodeBytes_encodesAs op b1 b2).1

theorem encode_decodeBytes (op b1 b2 : Byte) :
    encode (decodeBytes op b1 b2) = op :: [b1, b2].take (opLength op - 1) := by
  simpa [immLo_append, immHi_append] using (decodeBytes_encodesAs op b1 b2).2

/-- The opcode's length is the length of the encoding it begins (R160). -/
theorem opLength_of_encode {op b1 b2 : Byte} {ops : List Byte} (h : encode (decodeBytes op b1 b2) = op :: ops) :
    opLength op = ops.length + 1 := by
  have hle := Machine.opLength_le op
  rw [encode_decodeBytes, List.cons.injEq] at h
  rw [← h.2, List.length_take, List.length_cons, List.length_singleton]
  omega

/-- The operand bytes `decode` looks at are the front of what follows the opcode. -/
theorem take_operands {n : Nat} {rest : List Byte} (hn : n ≤ rest.length) (h2 : n ≤ 2) :
    [rest.getD 0 0, rest.getD 1 0].take n = rest.take n := by
  obtain _ | ⟨b1, _ | ⟨b2, rest⟩⟩ := rest <;> interval_cases n <;> simp at hn ⊢

/-- Settles O3: what an opcode and two bytes decode to encodes to as many of them as the opcode's length says. -/
theorem encodeInvertsDecode : Obligations.EncodeInvertsDecode := by
  refine ⟨fun bs i rest h => ?_, rfl, fun op rest => ?_⟩
  · cases bs with
    | nil => cases h
    | cons op tail =>
      obtain ⟨hlen, hr⟩ := decode_cons_eq_ok_iff.mp h
      cases hr
      refine ⟨decodeBytes_wf _ _ _, ?_⟩
      have := Machine.opLength_le op
      rw [encode_decodeBytes, take_operands (by omega) (by omega), List.cons_append, List.take_append_drop]
  · simp only [decode_cons_eq_ok_iff, exists_and_left, exists_eq', and_true]

/-! Instruction to bytes and back. -/

/-- The bytes of `i` stand for `i`, whatever bytes follow them. -/
def ReadsBack (i : Instr) : Prop :=
  ∃ op ops, encode i = op :: ops ∧ ∀ rest, decodeBytes op ((ops ++ rest).getD 0 0) ((ops ++ rest).getD 1 0) = i

/-- After 0xCB the next byte alone selects the instruction (R172). -/
theorem ReadsBack.of_extended {i : Instr} {op2 : Byte} (henc : encode i = [0xCB, op2]) (hdec : decodeExtended op2 = i) : ReadsBack i :=
  ⟨0xCB, [op2], henc, fun _ => hdec⟩

/-- An operand word is put together again from the two bytes after the opcode (R161). -/
theorem ReadsBack.of_word {f : Word → Instr} {nn : Word} {op : Byte} (henc : encode (f nn) = [op, immLo nn, immHi nn])
    (hdec : ∀ b1 b2, decodeBytes op b1 b2 = f (b2 ++ b1)) : ReadsBack (f nn) :=
  ⟨op, _, henc, fun _ => (hdec _ _).trans (congrArg f (immHi_append_immLo nn))⟩

/-- Family by family; the row of the byte 0xCB alone is not well formed (R376). -/
theorem readsBack_of_wf {i : Instr} (h : i.wf = true) : ReadsBack i := by
  induction i using Instr.byFamily
  case f_ldPairNN p _ => cases p <;> exact .of_word rfl fun _ _ => rfl
  case f_jpCond c _ | f_callCond c _ => cases c <;> exact .of_word rfl fun _ _ => rfl
  case f_ld_atnn_SP | f_jp_nn | f_call_nn | f_ld_atnn_A | f_ld_A_atnn => exact .of_word rfl fun _ _ => rfl
  case f_prefix_CB => cases h
  case f_ldRegReg d r => cases d <;> cases r <;> exact ⟨_, _, rfl, fun _ => rfl⟩
  case f_aluReg a r => cases a <;> cases r <;> exact ⟨_, _, rfl, fun _ => rfl⟩
  case f_rotReg o r => cases o <;> cases r <;> exact .of_extended rfl rfl
  case f_bitReg b r | f_resReg b r | f_setReg b r => fin_cases b <;> cases r <;> exact .of_extended rfl rfl
  case f_ldRegN r _ | f_ldRegAtHL r | f_ldAtHLReg r | f_incReg r | f_decReg r => cases r <;> exact ⟨_, _, rfl, fun _ => rfl⟩
  case f_push q | f_pop q => cases q <;> exact ⟨_, _, rfl, fun _ => rfl⟩
  case f_aluAtHL a | f_aluN a _ => cases a <;> exact ⟨_, _, rfl, fun _ => rfl⟩
  case f_addHL p | f_incPair p | f_decPair p => cases p <;> exact ⟨_, _, rfl, fun _ => rfl⟩
  case f_rotAtHL o => cases o <;> exact .of_extended rfl rfl
  case f_bitAtHL b | f_resAtHL b | f_setAtHL b => fin_cases b <;> exact .of_extended rfl rfl
  case f_rst b => fin_cases b <;> exact ⟨_, _, rfl, fun _ => rfl⟩
  case f_jrCond c _ | f_retCond c => cases c <;> exact ⟨_, _, rfl, fun _ => rfl⟩
  case f_illegal ill => cases ill <;> exact ⟨_, _, rfl, fun _ => rfl⟩
  all_goals exact ⟨_, _, rfl, fun _ => rfl⟩

/-- Settles O2: the first byte of the encoding decides its length, and the bytes after it give the operands back. -/
theorem decodeInvertsEncode : Obligations.DecodeInvertsEncode := by
  intro i rest h
  obtain ⟨op, ops, henc, hback⟩ := readsBack_of_wf h
  have hi := hback rest
  have hlen : opLength op = ops.length + 1 := opLength_of_encode (hi.symm ▸ henc)
  rw [henc, List.cons_append, decode_cons_eq_ok_iff, hi, hlen]
  simp

/-- Settles O1: the words by evaluation, each form's pattern by its fields. -/
theorem decodedWords : Obligations.DecodedWords := by
  refine ⟨rfl, rfl, rfl, rfl, rfl, rfl, rfl, rfl, rfl, rfl, rfl, rfl, ?_⟩
  intro R RP RP2 CC ALU ROT op d r p q c a o b n nn
  and_intros
  · cases d <;> cases r <;> rfl
  · cases d <;> rfl
  · cases d <;> rfl
  · cases r <;> rfl
  · cases p <;> rfl
  · cases q <;> rfl
  · cases q <;> rfl
  · cases a <;> cases r <;> rfl
  · cases a <;> rfl
  · cases a <;> rfl
  · cases r <;> rfl
  · cases r <;> rfl
  · cases p <;> rfl
  · cases p <;> rfl
  · cases p <;> rfl
  · cases o <;> cases r <;> rfl
  · cases o <;> rfl
  · fin_cases b <;> cases r <;> rfl
  · fin_cases b <;> rfl
  · fin_cases b <;> cases r <;> rfl
  · fin_cases b <;> rfl
  · fin_cases b <;> cases r <;> rfl
  · fin_cases b <;> rfl
  · cases c <;> rfl
  · cases c <;> rfl
  · cases c <;> rfl
  · cases c <;> rfl
  · fin_cases b <;> rfl

end Sys2Proof
end

section
/-!
SUPPORT. The 8-bit loads and stores (40_load8.md).
-/

namespace Sys2Proof.Machine

/-- A store is read the same whatever becomes of the processor and of the number a step returns. -/
theorem storedByte_write8_with_cpu (a : Word) (v : Byte) (s : State) (c : Cpu) (k : Nat) :
    StoredByte a v s { write8 a v s with cpu := c, cycles := k } :=
  storedByte_write8 a v s

theorem StoresByte.of {i : Instr} {a : Word} {v : Byte} {cost : Nat} {s : State} (h : exec i s = done cost (write8 a v s)) :
    StoresByte i a v cost s :=
  ⟨_, h, rfl, write8_cpu a v s, storedByte_write8_with_cpu a v s _ cost⟩

/-- Settles O5: every form is one bus write, which leaves the processor alone. -/
theorem byteStores : Obligations.ByteStores := fun s =>
  ⟨fun r => .of (exec_ldAtHLReg r s), fun n => .of (exec_ld_atHL_n n s), .of (exec_ld_atBC_A s), .of (exec_ld_atDE_A s),
    fun nn => .of (exec_ld_atnn_A nn s), fun n => .of (exec_ldh_atn_A n s), .of (exec_ldh_atC_A s)⟩

/-- Settles O4: every form sets its register to a byte read in the old state. -/
theorem byteLoads : Obligations.ByteLoads := fun s =>
  ⟨fun d r => .of (exec_ldRegReg d r s), fun d n => .of (exec_ldRegN d n s), fun d => .of (exec_ldRegAtHL d s),
    .of (exec_ld_A_atBC s), .of (exec_ld_A_atDE s), fun nn => .of (exec_ld_A_atnn nn s), fun n => .of (exec_ldh_A_atn n s),
    .of (exec_ldh_A_atC s)⟩

/-! The forms that move HL (R215 to R218). -/

/-- HL after the write is HL before it: the write leaves the processor alone. -/
theorem storeAStep_eq (step : Word) (s : State) :
    storeAStep step s = done 8 { write8 (s.pair .HL) s.cpu.a s with
      cpu := { s.cpu with h := hiByte (s.pair .HL + step), l := loByte (s.pair .HL + step) } } := by
  simp only [storeAStep, State.setPair, write8_pair, write8_cpu]

theorem loadAStep_eq (step : Word) (s : State) :
    loadAStep step s = done 8 ((s.setReg .A (read8 (s.pair .HL) s)).setPair .HL (s.pair .HL + step)) := rfl

/-- The decrementing form steps by -1, which is 0xFFFF in 16 bits. -/
theorem exec_storeAStep {i : Instr} {step : Word} (h : (i = .ld_atHLinc_A ∧ step = 1) ∨ (i = .ld_atHLdec_A ∧ step = 0xFFFF)) (s : State) :
    exec i s = storeAStep step s := by
  obtain ⟨rfl, rfl⟩ | ⟨rfl, rfl⟩ := h
  · exact exec_ld_atHLinc_A s
  · exact exec_ld_atHLdec_A s

theorem exec_loadAStep {i : Instr} {step : Word} (h : (i = .ld_A_atHLinc ∧ step = 1) ∨ (i = .ld_A_atHLdec ∧ step = 0xFFFF)) (s : State) :
    exec i s = loadAStep step s := by
  obtain ⟨rfl, rfl⟩ | ⟨rfl, rfl⟩ := h
  · exact exec_ld_A_atHLinc s
  · exact exec_ld_A_atHLdec s

/-- Settles O6: the access is made at the old HL, and the moved HL is two registers, which no read sees. -/
theorem loadAndStep : Obligations.LoadAndStep := by
  intro s step hl moved
  constructor
  · intro i hi
    exact ⟨_, (exec_storeAStep hi s).trans (storeAStep_eq step s), rfl, mkWord_hi_lo _, storedByte_write8_with_cpu hl s.cpu.a s moved 8⟩
  · intro i hi
    exact ⟨_, (exec_loadAStep hi s).trans (loadAStep_eq step s), rfl, mkWord_hi_lo _, fun _ => rfl⟩

end Sys2Proof.Machine
end

section
/-!
SUPPORT. The 16-bit loads and the stack (41_load16_stack.md), with ADD SP,e, which shares its sum (43_alu16.md R303, R304).
-/

namespace Sys2Proof.Machine

/-! Two stores to plain storage, one after the other: the stack and LD (nn),SP. -/

/-- A store to plain storage opens and shuts no gate and moves no cartridge RAM bank, so every cell stays where it was. -/
theorem cellOf_write8_cell {a : Word} {s : State} {c : Cell} (h : cellOf a s = some c) (v : Byte) (x : Word) :
    cellOf x (write8 a v s) = cellOf x s := by
  have ha := cellOf_iff.mp h
  rw [ha.write8_eq]
  cases ha with
  | reg _ hplain =>
    have hframe := ioWrite_ioFrame a.toNat v s
    have hlcdc : a.toNat ≠ 0xFF40 := by have := plainRegister_cases hplain; omega
    simp only [cellOf, Cell.write, hframe.cart, hframe.vramOpen hlcdc]
  | vram | xram | wram | echo | hram | snd => rfl

/-- The later store wins where both reach one cell. -/
theorem read8_write8_write8_cell {a b : Word} {s : State} {c d : Cell} (ha : cellOf a s = some c) (hb : cellOf b s = some d)
    (v w : Byte) (x : Word) :
    read8 x (write8 b w (write8 a v s)) = if cellOf x s = some d then w else if cellOf x s = some c then v else read8 x s := by
  have hb' : cellOf b (write8 a v s) = some d := (cellOf_write8_cell ha v b).trans hb
  rw [read8_write8_cell hb', cellOf_write8_cell ha, read8_write8_cell ha]

/-! The push (R236): two bus writes and SP, whatever is pushed. -/

theorem done_push16 (cost : Nat) (v : Word) (s : State) :
    done cost (push16 v s) = .next { write8 (s.cpu.sp - 2) (loByte v) (write8 (s.cpu.sp - 1) (hiByte v) s) with
      cpu := { s.cpu with sp := s.cpu.sp - 2 }, cycles := cost } := by
  simp only [push16_eq, done, State.setSp, write8_cpu]

/-- Pushed bytes are read the same whatever becomes of the processor and of the number a step returns. -/
theorem pushedWord_write8_with_cpu (v : Word) (s : State) (c : Cpu) (k : Nat) :
    PushedWord v s { write8 (s.cpu.sp - 2) (loByte v) (write8 (s.cpu.sp - 1) (hiByte v) s) with cpu := c, cycles := k } :=
  fun _ _ hhi hlo x => read8_write8_write8_cell hhi hlo (hiByte v) (loByte v) x

/-- Settles O8: each form is two bus writes in its rule's order, and plain storage reads as the later of them left it. -/
theorem wordStores : Obligations.WordStores := by
  intro s
  refine ⟨fun nn => exec_ld_atnn_SP nn s, fun nn lo hi hlo hhi t ht x => ?_, fun q => ?_⟩
  · rw [exec_ld_atnn_SP] at ht
    cases ht
    exact read8_write8_write8_cell hlo hhi (loByte s.cpu.sp) (hiByte s.cpu.sp) x
  · exact ⟨_, (exec_push q s).trans (done_push16 16 _ s), rfl, pushedWord_write8_with_cpu _ s _ 16⟩

/-! The pop (R237, R238). -/

@[simp] theorem hiByte_popValue (s : State) : hiByte (popValue s) = read8 (s.cpu.sp + 1) s := hiByte_mkWord _ _

@[simp] theorem loByte_popValue (s : State) : loByte (popValue s) = read8 s.cpu.sp s := loByte_mkWord _ _

/-- Settles O9: the pair's two registers are the two bytes of the popped word. -/
theorem wordPops : Obligations.WordPops := by
  intro s lo hi cpu
  have hlo : loByte (popValue s) = lo := loByte_popValue s
  have hhi : hiByte (popValue s) = hi := hiByte_popValue s
  rw [← hlo, ← hhi]
  exact ⟨exec_pop .BC s, exec_pop .DE s, exec_pop .HL s, exec_pop .AF s⟩

/-! A push and then a pop (R236 to R239). -/

/-- Two stack bytes in different cells are read back as they were pushed. -/
theorem PushedWord.popValue_eq {v : Word} {s t : State} {hi lo : Cell} (h : PushedWord v s t) (hsp : t.cpu.sp = s.cpu.sp - 2)
    (hhi : cellOf (s.cpu.sp - 1) s = some hi) (hlo : cellOf (s.cpu.sp - 2) s = some lo) (hne : hi ≠ lo) : popValue t = v := by
  have hread := h hi lo hhi hlo
  have hsucc : s.cpu.sp - 2 + 1 = s.cpu.sp - 1 := by bv_omega
  have hlow : read8 (s.cpu.sp - 2) t = loByte v := by rw [hread, if_pos hlo]
  have hhigh : read8 (s.cpu.sp - 1) t = hiByte v := by
    rw [hread, hhi, if_neg fun heq => hne (Option.some.inj heq), if_pos rfl]
  rw [popValue, read16, hsp, hsucc, hlow, hhigh, mkWord_hi_lo]

theorem mkWord_and_mask (h l : Byte) : mkWord h (l &&& 0xF0#8) = mkWord h l &&& 0xFFF0#16 := by
  have hmask : (0xFFF0#16 : Word) = 0xFF#8 ++ 0xF0#8 := rfl
  have hall : h &&& 0xFF#8 = h := BitVec.and_allOnes
  rw [mkWord, mkWord, hmask, BitVec.and_append, hall]

/-- F has no low nibble (10_state.md R21). -/
theorem packF_and_mask (f : Flags) : packF f &&& 0xF0#8 = packF f := by
  rw [← packF_unpackF, unpackF_packF]

theorem stackPair_AF_and_mask (s : State) : s.stackPair .AF &&& 0xFFF0#16 = s.stackPair .AF := by
  simp only [State.stackPair, ← mkWord_and_mask, packF_and_mask]

/-- A pair moved to a pair: the low nibble goes where the destination is AF, and is 0 already where the source is. -/
theorem setStackPair_stackPair_of_stackPair (s t : State) (p q : StackPair) :
    (t.setStackPair q (s.stackPair p)).stackPair q =
      if p = .AF ∨ q = .AF then s.stackPair p &&& 0xFFF0#16 else s.stackPair p := by
  rw [setStackPair_stackPair, mkWord_and_mask, mkWord_hi_lo]
  by_cases hq : q = .AF
  · simp only [hq, or_true, if_true]
  · by_cases hp : p = .AF
    · simp only [hp, hq, true_or, if_true, if_false, stackPair_AF_and_mask]
    · simp only [hp, hq, or_self, if_false]

@[simp] theorem stackPair_with_cycles (s : State) (k : Nat) (p : StackPair) : { s with cycles := k }.stackPair p = s.stackPair p := by
  cases p <;> rfl

/-- Settles O10: the pop reads the pushed word back, and its destination takes it. -/
theorem pushThenPop : Obligations.PushThenPop := by
  intro s t from_ to_ hi lo hhi hlo hne ht
  rw [exec_push, pushPair, done_push16] at ht
  cases ht
  refine ⟨_, exec_pop to_ _, ?_, ?_⟩
  · simp only [setStackPair_sp, popSp, setSp_sp]
    bv_omega
  · rw [stackPair_with_cycles, (pushedWord_write8_with_cpu _ s _ 16).popValue_eq rfl hhi hlo hne,
      setStackPair_stackPair_of_stackPair]

/-! SP plus a signed byte (R233, R303). -/

theorem sext16_eq_ofInt (e : Byte) : sext16 e = BitVec.ofInt 16 e.toInt := by revert e; decide

theorem add_sext16 (a : Word) (e : Byte) : a + sext16 e = BitVec.ofInt 16 ((a.toNat : Int) + e.toInt) := by
  rw [BitVec.ofInt_add, BitVec.ofInt_natCast, BitVec.ofNat_toNat, BitVec.setWidth_eq, sext16_eq_ofInt]

/-- Settles O7: every form sets its pair, the last two to the sum of `spPlusE` with its flags. -/
theorem wordLoads : Obligations.WordLoads := by
  intro s e sum f
  have hsum : spPlusE s.cpu.sp e = (sum, f) := Prod.ext (add_sext16 s.cpu.sp e) rfl
  refine ⟨fun p nn => .of_pair (exec_ldPairNN p nn s), .of_pair (exec_ld_SP_HL s), .of ?_, .of ?_⟩
  · rw [exec_ld_HL_SPe, loadHlSpE, hsum]
  · rw [exec_add_SP_e, addSpE, hsum]
    rfl

end Sys2Proof.Machine
end

section
/-!
SUPPORT. 8-bit arithmetic and logic (42_alu8.md).
-/

namespace Sys2Proof.Machine

/-! The operand forms of an ALU operation (R250): one meaning, `aluWith`, at three operands and costs. -/

theorem AluForms.of {op : AluOp} {s : State} {v : Byte → Byte} {f : Byte → Flags}
    (h : ∀ b, alu op s.cpu.a b s.flags = (v b, f b)) :
    AluForms op s fun i b cost => SetsRegFlags i .A (v b) (f b) cost s := by
  have hwith : ∀ {i b cost}, exec i s = aluWith op b cost s → SetsRegFlags i .A (v b) (f b) cost s :=
    fun {i b cost} hi => .of (by rw [hi, aluWith, h])
  exact ⟨fun r => hwith (exec_aluReg op r s), hwith (exec_aluAtHL op s), fun n => hwith (exec_aluN op n s)⟩

/-! Addition and subtraction (R251, R252): the integer result narrowed is the sum or difference of the bytes. -/

theorem add8_eq (a b : Byte) (cin : Bool) :
    add8 a b cin = (a + b + (cin.toNat : Byte),
      { z := decide (a + b + (cin.toNat : Byte) = 0), n := false
        h := decide (a.toNat % 16 + b.toNat % 16 + cin.toNat > 15), c := decide (a.toNat + b.toNat + cin.toNat > 255) }) := by
  have hres : BitVec.ofNat 8 (a.toNat + b.toNat + cin.toNat) = a + b + (cin.toNat : Byte) := by
    simp only [BitVec.ofNat_add, BitVec.ofNat_toNat, BitVec.setWidth_eq, BitVec.natCast_eq_ofNat]
  simp only [add8, hres]

/-- `BitVec.ofInt` is the cast of the ring of bytes. -/
theorem ofInt_sub_byte (i j : Int) : BitVec.ofInt 8 (i - j) = BitVec.ofInt 8 i - BitVec.ofInt 8 j := Int.cast_sub i j

theorem sub8_eq (a b : Byte) (cin : Bool) :
    sub8 a b cin = (a - b - (cin.toNat : Byte),
      { z := decide (a - b - (cin.toNat : Byte) = 0), n := true
        h := decide (a.toNat % 16 < b.toNat % 16 + cin.toNat), c := decide (a.toNat < b.toNat + cin.toNat) }) := by
  have hres : BitVec.ofInt 8 ((a.toNat : Int) - b.toNat - cin.toNat) = a - b - (cin.toNat : Byte) := by
    simp only [ofInt_sub_byte, BitVec.ofInt_natCast, BitVec.ofNat_toNat, BitVec.setWidth_eq, BitVec.natCast_eq_ofNat]
  simp only [sub8, hres]

/-- Settles O11: both operations are `add8`, ADD without a carry-in and ADC with the old carry. -/
theorem additions : Obligations.Additions := by
  intro s op cin hop
  refine .of fun b => ?_
  obtain ⟨rfl, rfl⟩ | ⟨rfl, rfl⟩ := hop
  · exact add8_eq s.cpu.a b false
  · exact add8_eq s.cpu.a b s.cpu.f.c

/-- Settles O12: all three operations are `sub8`, SBC with the old carry as its borrow, and CP drops the difference. -/
theorem subtractions : Obligations.Subtractions := by
  intro s op cin hop
  refine .of fun b => ?_
  obtain ⟨rfl, rfl⟩ | ⟨rfl, rfl⟩ | ⟨rfl, rfl⟩ := hop
  · exact sub8_eq s.cpu.a b false
  · exact sub8_eq s.cpu.a b s.cpu.f.c
  · exact congrArg (fun x => (s.cpu.a, x.2)) (sub8_eq s.cpu.a b false)

/-- Settles O13: each operation's result and flags are those `alu` gives (R265 to R273). -/
theorem logicOperations : Obligations.LogicOperations :=
  fun _ => ⟨.of fun _ => rfl, .of fun _ => rfl, .of fun _ => rfl⟩

/-! Increment and decrement (R277 to R280). -/

theorem StoresByteFlags.of {i : Instr} {v : Byte} {f : Flags} {cost : Nat} {s : State}
    (h : exec i s = done cost ((s.setAtHL v).setFlags f)) : StoresByteFlags i v f cost s := by
  refine ⟨_, h.trans ?_, rfl, storedByte_write8_with_cpu (s.pair .HL) v s { s.cpu with f := f } cost⟩
  simp only [done, State.setFlags, State.setAtHL, write8_cpu]

/-- Z: the increment wraps to 0 from 0xFF alone. -/
theorem inc8_eq (old : Byte) (f : Flags) :
    inc8 old f = (old + 1, { z := decide (old = 0xFF), n := false, h := decide (old.toNat % 16 = 15), c := f.c }) := by
  have hz : old + 1 = 0 ↔ old = 0xFF := by bv_omega
  simp only [inc8, hz]

/-- Z: the decrement reaches 0 from 1 alone. -/
theorem dec8_eq (old : Byte) (f : Flags) :
    dec8 old f = (old - 1, { z := decide (old = 1), n := true, h := decide (old.toNat % 16 = 0), c := f.c }) := by
  have hz : old - 1 = 0 ↔ old = 1 := sub_eq_zero
  simp only [dec8, hz]

/-- Settles O14: every form is `inc8` or `dec8` of the byte read, put back where it came from. -/
theorem incrementsDecrements : Obligations.IncrementsDecrements := by
  intro s incFlags decFlags m
  refine ⟨fun r => .of ?_, fun r => .of ?_, .of ?_, .of ?_⟩
  · rw [exec_incReg, incReg, inc8_eq]
    rfl
  · rw [exec_decReg, decReg, dec8_eq]
    rfl
  · rw [exec_inc_atHL, incAtHL, inc8_eq]
    rfl
  · rw [exec_dec_atHL, decAtHL, dec8_eq]
    rfl

/-! Decimal adjustment (R281). -/

/-- What the two tests of DAA come to, both on A as it was before the adjustment. -/
structure DaaTests (a : Byte) (f : Flags) (low high : Prop) : Prop where
  low_iff : low ↔ f.h = true ∨ (f.n = false ∧ a.toNat % 16 > 9)
  high_iff : high ↔ f.c = true ∨ (f.n = false ∧ a.toNat > 0x99)

/-- The correction as a number. -/
def daaCorrection (low high : Prop) [Decidable low] [Decidable high] : Nat :=
  (if low then 0x06 else 0) + (if high then 0x60 else 0)

theorem ofNat_daaCorrection (low high : Prop) [Decidable low] [Decidable high] :
    BitVec.ofNat 8 (daaCorrection low high) = (if low then 0x06#8 else 0) ||| (if high then 0x60#8 else 0) := by
  unfold daaCorrection
  split <;> split <;> rfl

theorem DaaTests.daaAdjust_eq {a : Byte} {f : Flags} {low high : Prop} [Decidable low] [Decidable high]
    (h : DaaTests a f low high) : daaAdjust a f = BitVec.ofNat 8 (daaCorrection low high) := by
  simp only [ofNat_daaCorrection, h.low_iff, h.high_iff, daaAdjust]
  cases f.n <;> simp

/-- The integer result narrowed is the corrected byte. -/
theorem DaaTests.daa_eq {a : Byte} {f : Flags} {low high : Prop} [Decidable low] [Decidable high] (h : DaaTests a f low high)
    {res : Byte} (hres : res = BitVec.ofInt 8
      (if f.n then (a.toNat : Int) - daaCorrection low high else a.toNat + daaCorrection low high)) :
    daa a f = (res, { z := decide (res = 0), n := f.n, h := false, c := decide high }) := by
  have hadj : (if f.n then a - daaAdjust a f else a + daaAdjust a f) = res := by
    rw [h.daaAdjust_eq, hres]
    cases f.n <;> simp [ofInt_sub_byte, BitVec.ofInt_add]
  have hcarry : (f.c || (!f.n && decide (a.toNat > 0x99))) = decide high := by
    simp [h.high_iff]
  simp only [daa, hadj, hcarry]

/-- Settles O15: DAA by its two tests, CPL as an exclusive or with all ones, the other two as flag writes. -/
theorem accumulatorAdjustments : Obligations.AccumulatorAdjustments := by
  intro s a f low high adj res
  refine ⟨.of ?_, .of ?_, .of_flags (exec_scf s), .of_flags (exec_ccf s)⟩
  · have htests : DaaTests a f low high := ⟨Iff.rfl, Iff.rfl⟩
    have hdaa := htests.daa_eq (res := res) rfl
    rw [exec_daa, decimalAdjust]
    exact congrArg (fun x => done 4 ((s.setReg .A x.1).setFlags x.2)) hdaa
  · have hnot : a ^^^ 0xFF = ~~~a := BitVec.xor_allOnes
    rw [exec_cpl, complementA, hnot]
    rfl

/-! DAA after a decimal addition or subtraction (R258, R264, R281). -/

/-- The two decimal digits of a number below 100, packed in a byte. -/
def packedBcd (d : Nat) : Byte := BitVec.ofNat 8 (16 * (d / 10) + d % 10)

theorem toNat_packedBcd {d : Nat} (h : d < 100) : (packedBcd d).toNat = 16 * (d / 10) + d % 10 := by
  rw [packedBcd, BitVec.toNat_ofNat]
  omega

/-- Both tests see the decimal carries: the low one that of the low digits, the high one that of the whole sum. -/
theorem daaTests_add8 {x y : Nat} (hx : x < 100) (hy : y < 100) (cin : Bool) :
    DaaTests (add8 (packedBcd x) (packedBcd y) cin).1 (add8 (packedBcd x) (packedBcd y) cin).2
      (x % 10 + y % 10 + cin.toNat ≥ 10) (x + y + cin.toNat ≥ 100) := by
  have hcin := Bool.toNat_le cin
  constructor <;>
    simp only [add8, toNat_packedBcd hx, toNat_packedBcd hy, BitVec.toNat_ofNat, decide_eq_true_eq, true_and]
  · omega
  · have hsmall : 100 ≤ x + y + cin.toNat ∨ 16 * (x / 10) + x % 10 + (16 * (y / 10) + y % 10) + cin.toNat ≤ 0x99 := by omega
    omega

/-- After a subtraction the tests are the flags alone, and these are the decimal borrows. -/
theorem daaTests_sub8 {x y : Nat} (hx : x < 100) (hy : y < 100) (cin : Bool) :
    DaaTests (sub8 (packedBcd x) (packedBcd y) cin).1 (sub8 (packedBcd x) (packedBcd y) cin).2
      (x % 10 < y % 10 + cin.toNat) (x < y + cin.toNat) := by
  have hcin := Bool.toNat_le cin
  constructor <;>
    simp only [sub8, toNat_packedBcd hx, toNat_packedBcd hy, decide_eq_true_eq, Bool.true_eq_false, false_and, or_false]
  · omega
  · omega

/-- The corrections 0x06 and 0x60 make up for the six codes of a nibble that are no digit. -/
theorem daa_add8 {x y : Nat} (hx : x < 100) (hy : y < 100) (cin : Bool) :
    let r := add8 (packedBcd x) (packedBcd y) cin
    let res := packedBcd ((x + y + cin.toNat) % 100)
    daa r.1 r.2 = (res, { z := decide (res = 0), n := false, h := false, c := decide (x + y + cin.toNat ≥ 100) }) := by
  have hcin := Bool.toNat_le cin
  refine (daaTests_add8 hx hy cin).daa_eq (BitVec.eq_of_toNat_eq ?_)
  rw [toNat_packedBcd (Nat.mod_lt _ (by decide)), BitVec.toNat_ofInt]
  simp only [add8, toNat_packedBcd hx, toNat_packedBcd hy, BitVec.toNat_ofNat, daaCorrection, Bool.false_eq_true, if_false]
  split <;> split <;> omega

theorem daa_sub8 {x y : Nat} (hx : x < 100) (hy : y < 100) (cin : Bool) :
    let r := sub8 (packedBcd x) (packedBcd y) cin
    let res := packedBcd ((100 + x - y - cin.toNat) % 100)
    daa r.1 r.2 = (res, { z := decide (res = 0), n := true, h := false, c := decide (x < y + cin.toNat) }) := by
  have hcin := Bool.toNat_le cin
  refine (daaTests_sub8 hx hy cin).daa_eq (BitVec.eq_of_toNat_eq ?_)
  rw [toNat_packedBcd (Nat.mod_lt _ (by decide)), BitVec.toNat_ofInt]
  simp only [sub8, toNat_packedBcd hx, toNat_packedBcd hy, BitVec.toNat_ofInt, daaCorrection, if_true]
  split <;> split <;> omega

/-- An immediate ALU operation and then DAA complete, and DAA works on the A and the flags the operation left. -/
theorem exec_aluN_then_daa (op : AluOp) {b a : Byte} {f : Flags} {s : State}
    (h : daa (alu op s.cpu.a b s.flags).1 (alu op s.cpu.a b s.flags).2 = (a, f)) :
    ∃ t u, exec (Instr.aluN op b) s = .next t ∧ exec .daa t = .next u ∧ u.cpu.a = a ∧ u.cpu.f.c = f.c :=
  ⟨_, _, exec_aluN op b s, exec_daa _, congrArg Prod.fst h, congrArg (·.2.c) h⟩

/-- Settles O16: ADC is `add8` and SBC `sub8` of the packed operands, and DAA turns the binary result into the decimal one. -/
theorem decimalArithmetic : Obligations.DecimalArithmetic := by
  intro s x1 x0 y1 y0 cin hx1 hx0 hy1 hy0 x y bcd start
  have hx : x < 100 := by omega
  have hy : y < 100 := by omega
  have hadd := daa_add8 hx hy cin
  have hsub := daa_sub8 hx hy cin
  exact ⟨exec_aluN_then_daa .adc (s := start) hadd, exec_aluN_then_daa .sbc (s := start) hsub⟩

end Sys2Proof.Machine
end

section
/-!
SUPPORT. 16-bit arithmetic (43_alu16.md).
-/

namespace Sys2Proof.Machine

/-- The number sum narrowed is the sum of the words (R300). -/
theorem add16_eq (a b : Word) (f : Flags) :
    add16 a b f = (a + b,
      { z := f.z, n := false, h := decide (a.toNat % 4096 + b.toNat % 4096 > 4095), c := decide (a.toNat + b.toNat > 65535) }) := by
  rw [add16, BitVec.add_def]

/-- Settles O17: ADD HL,rr is `add16` of the two pairs with its flags; INC rr and DEC rr write the pair alone. -/
theorem pairArithmetic : Obligations.PairArithmetic := by
  intro s p a b
  refine ⟨.of ?_, .of_pair (exec_incPair p s), .of_pair (exec_decPair p s)⟩
  rw [exec_addHL, addHl, add16_eq]
  rfl

end Sys2Proof.Machine
end

section
/-!
SUPPORT. Rotates, shifts and the bit operations (44_rotate_shift_bit.md).
-/

namespace Sys2Proof.Machine

/-! The rotates and shifts (R314): a shift of a byte is a part of it next to zeros, and the or puts the moved bits in their place. -/

theorem shiftLeft_one_eq (v : Byte) : v <<< 1 = v.extractLsb' 0 7 ++ 0#1 := BitVec.shiftLeft_eq_concat_of_lt (by decide)

theorem shiftRight_one_eq (v : Byte) : v >>> 1 = 0#1 ++ v.extractLsb' 1 7 := BitVec.ushiftRight_eq_extractLsb'_of_lt (by decide)

theorem shiftLeft_one_or (v : Byte) (b : BitVec 1) : v <<< 1 ||| (0#7 ++ b) = v.extractLsb' 0 7 ++ b := by
  rw [shiftLeft_one_eq, BitVec.or_append, BitVec.or_zero, BitVec.zero_or]

theorem shiftRight_one_or (v : Byte) (b : BitVec 1) : v >>> 1 ||| (b ++ 0#7) = b ++ v.extractLsb' 1 7 := by
  rw [shiftRight_one_eq, BitVec.or_append, BitVec.or_zero, BitVec.zero_or]

theorem shiftRight_seven_eq (v : Byte) : v >>> 7 = 0#7 ++ BitVec.ofBool (v.getLsbD 7) := by revert v; decide

theorem shiftLeft_seven_eq (v : Byte) : v <<< 7 = BitVec.ofBool (v.getLsbD 0) ++ 0#7 := by revert v; decide

theorem and_0x80_eq (v : Byte) : v &&& 0x80 = BitVec.ofBool (v.getLsbD 7) ++ 0#7 := by revert v; decide

theorem carryIn_low_eq (b : Bool) : (if b then 1 else 0 : Byte) = 0#7 ++ BitVec.ofBool b := by cases b <;> rfl

theorem carryIn_high_eq (b : Bool) : (if b then 0x80 else 0 : Byte) = BitVec.ofBool b ++ 0#7 := by cases b <;> rfl

theorem swap_nibbles_eq (v : Byte) : (v &&& 0x0F) <<< 4 ||| v >>> 4 = v.extractLsb' 0 4 ++ v.extractLsb' 4 4 := by
  have hlow : (v &&& 0x0F) <<< 4 = v.extractLsb' 0 4 ++ 0#4 := by revert v; decide
  have hhigh : v >>> 4 = 0#4 ++ v.extractLsb' 4 4 := BitVec.ushiftRight_eq_extractLsb'_of_lt (by decide)
  rw [hlow, hhigh, BitVec.or_append, BitVec.or_zero, BitVec.zero_or]

theorem rot_law (op : RotOp) (v : Byte) (cin : Bool) : RotLaw op v cin (rot op v cin).1 (rot op v cin).2 := by
  cases op with
  | rlc => exact ⟨rfl, by rw [shiftRight_seven_eq, shiftLeft_one_or, rot]⟩
  | rrc => exact ⟨rfl, by rw [shiftLeft_seven_eq, shiftRight_one_or, rot]⟩
  | rl => exact ⟨rfl, by rw [carryIn_low_eq, shiftLeft_one_or, rot]⟩
  | rr => exact ⟨rfl, by rw [carryIn_high_eq, shiftRight_one_or, rot]⟩
  | sla => exact ⟨rfl, (shiftLeft_one_eq v).symm⟩
  | sra => exact ⟨rfl, by rw [and_0x80_eq, shiftRight_one_or, rot]⟩
  | swap => exact ⟨rfl, (swap_nibbles_eq v).symm⟩
  | srl => exact ⟨rfl, (shiftRight_one_eq v).symm⟩

/-- Settles O19: the register receives the result of `rot`, which obeys the law, with the flags from that result. -/
theorem registerRotates : Obligations.RegisterRotates := fun s op r =>
  ⟨_, _, rot_law op (s.reg r) s.cpu.f.c, .of (exec_rotReg op r s)⟩

/-- Settles O20: one read, `rot`, one write; the flags are those of the result of `rot`, not of a byte read back. -/
theorem memoryRotates : Obligations.MemoryRotates := fun s op =>
  ⟨_, _, rot_law op (read8 (s.pair .HL) s) s.cpu.f.c, .of (exec_rotAtHL op s)⟩

/-- RLCA, RRCA, RLA and RRA are one operation on A (R310 to R313). -/
theorem exec_rotA {i : Instr} {op : RotOp}
    (h : (i = .rlca ∧ op = .rlc) ∨ (i = .rrca ∧ op = .rrc) ∨ (i = .rla ∧ op = .rl) ∨ (i = .rra ∧ op = .rr)) (s : State) :
    exec i s = rotA op s := by
  obtain ⟨rfl, rfl⟩ | ⟨rfl, rfl⟩ | ⟨rfl, rfl⟩ | ⟨rfl, rfl⟩ := h
  · exact exec_rlca s
  · exact exec_rrca s
  · exact exec_rla s
  · exact exec_rra s

/-- Settles O18: A receives the result of `rot`, and Z is clear whatever that result is. -/
theorem accumulatorRotates : Obligations.AccumulatorRotates := fun s _ op hi =>
  ⟨_, _, rot_law op s.cpu.a s.cpu.f.c, .of (exec_rotA hi s)⟩

/-! The bit operations (R331 to R336). -/

/-- Z: the tested bit as a digit of the byte's number. -/
theorem bitFlags_eq (v : Byte) (b : Fin 8) (f : Flags) :
    bitFlags v b f = { z := decide (v.toNat / 2 ^ b.val % 2 = 0), n := false, h := true, c := f.c } := by
  have hbit : v.getLsbD b.val = decide (v.toNat / 2 ^ b.val % 2 = 1) := Nat.testBit_eq_decide_div_mod_eq
  have hz : (!v.getLsbD b.val) = decide (v.toNat / 2 ^ b.val % 2 = 0) := by
    rw [hbit, ← decide_not, decide_eq_decide]
    exact Nat.mod_two_ne_one
  rw [bitFlags, hz]

/-- Settles O21: both forms write the flags of BIT alone. -/
theorem bitTests : Obligations.BitTests := by
  intro s b sets
  have hsets : ∀ {i v cost}, exec i s = done cost (s.setFlags (bitFlags v b s.flags)) → sets i v cost :=
    fun {i v cost} hi => .of_flags (by rw [hi, bitFlags_eq]; rfl)
  exact ⟨fun r => hsets (exec_bitReg b r s), hsets (exec_bitAtHL b s)⟩

/-- Settles O22: the register forms write their register, the forms at HL make one bus write, and neither touches a flag. -/
theorem bitResetsAndSets : Obligations.BitResetsAndSets := fun s b =>
  ⟨fun r => .of (exec_resReg b r s), .of (exec_resAtHL b s), fun r => .of (exec_setReg b r s), .of (exec_setAtHL b s)⟩

end Sys2Proof.Machine
end

section
/-!
SUPPORT. Control transfer (45_control.md).
-/

namespace Sys2Proof.Machine

/-! A conditional form is its taken or its not-taken meaning (R350). -/

theorem ite_condHolds_of_condTrue {c : Cond} {s : State} (h : CondTrue c s.cpu.f) (taken other : Out) :
    (if condHolds c s.flags then taken else other) = taken := if_pos ((condHolds_iff c s.flags).mpr h)

theorem ite_condHolds_of_not_condTrue {c : Cond} {s : State} (h : ¬CondTrue c s.cpu.f) (taken other : Out) :
    (if condHolds c s.flags then taken else other) = other := if_neg (mt (condHolds_iff c s.flags).mp h)

/-! Jumps (R351 to R355). -/

theorem SetsPc.of {i : Instr} {a : Word} {cost : Nat} {s : State} (h : exec i s = jump a cost s) : SetsPc i a cost s := h

/-- A transfer not taken leaves PC where the fetch left it, past the operand. -/
theorem SetsPc.of_done {i : Instr} {cost : Nat} {s : State} (h : exec i s = done cost s) : SetsPc i s.cpu.pc cost s := h

/-- Settles O23: every form is `jump` or no effect; a relative target is the signed sum narrowed. -/
theorem jumps : Obligations.Jumps := by
  intro s nn e c target
  have hrelative (cost : Nat) : jumpRelative e cost s = jump target cost s := by rw [jumpRelative, add_sext16]
  refine ⟨.of (exec_jp_nn nn s), .of (exec_jp_HL s), fun h => .of ?_, fun h => .of_done ?_, .of ?_, fun h => .of ?_, fun h => .of_done ?_⟩
  · rw [exec_jpCond, jumpIf, ite_condHolds_of_condTrue h]
  · rw [exec_jpCond, jumpIf, ite_condHolds_of_not_condTrue h]
  · rw [exec_jr_e, hrelative]
  · rw [exec_jrCond, jumpRelativeIf, ite_condHolds_of_condTrue h, hrelative]
  · rw [exec_jrCond, jumpRelativeIf, ite_condHolds_of_not_condTrue h]

/-! Calls and restarts (R356, R357, R362). -/

/-- A call is the two bus writes of the push, then SP and PC. -/
theorem callTo_eq (a : Word) (cost : Nat) (s : State) :
    callTo a cost s = .next { write8 (s.cpu.sp - 2) (loByte s.cpu.pc) (write8 (s.cpu.sp - 1) (hiByte s.cpu.pc) s) with
      cpu := { s.cpu with sp := s.cpu.sp - 2, pc := a }, cycles := cost } := by
  simp only [callTo, push16_eq, done, State.setPc, State.setSp, write8_cpu]

theorem CallsTo.of {i : Instr} {a : Word} {cost : Nat} {s : State} (h : exec i s = callTo a cost s) : CallsTo i a cost s :=
  ⟨_, h.trans (callTo_eq a cost s), rfl, pushedWord_write8_with_cpu s.cpu.pc s _ cost⟩

theorem restart_eq (y : Fin 8) (s : State) : restart y s = callTo (BitVec.ofNat 16 (8 * y.val)) 16 s := by
  rw [restart, restartTarget, Nat.mul_comm]

theorem callsTo_call_nn (nn : Word) (s : State) : CallsTo (.call_nn nn) nn 24 s := .of (exec_call_nn nn s)

theorem callsTo_rst (y : Fin 8) (s : State) : CallsTo (Instr.rst y) (BitVec.ofNat 16 (8 * y.val)) 16 s :=
  .of ((exec_rst y s).trans (restart_eq y s))

/-- Settles O24: every form taken is `callTo`, whose push stores PC; a call not taken has no effect. -/
theorem calls : Obligations.Calls := by
  intro s nn c y
  refine ⟨callsTo_call_nn nn s, fun h => .of ?_, fun h => .of_done ?_, callsTo_rst y s⟩
  · rw [exec_callCond, callIf, ite_condHolds_of_condTrue h]
  · rw [exec_callCond, callIf, ite_condHolds_of_not_condTrue h]

/-! Returns (R358, R359, R361). -/

/-- A return moves PC and SP alone. -/
theorem returnTo_eq (cost : Nat) (s : State) :
    returnTo cost s = .next { s with cpu := { s.cpu with sp := s.cpu.sp + 2, pc := popValue s }, cycles := cost } := rfl

/-- Settles O25: every form taken is a pop to PC, to which RETI adds IME and IME_PENDING. -/
theorem returns : Obligations.Returns := by
  intro s c popped
  refine ⟨(exec_ret s).trans (returnTo_eq 16 s), fun h => ?_, fun h => ?_, exec_reti s⟩
  · rw [exec_retCond, returnIf, ite_condHolds_of_condTrue h]
    exact returnTo_eq 20 s
  · rw [exec_retCond, returnIf, ite_condHolds_of_not_condTrue h]
    rfl

/-! A call and then a return (R356, R358, R360, R362). -/

/-- The pushed PC is popped, and SP falls by 2 and rises by 2. -/
theorem CallsTo.then_ret {i : Instr} {a : Word} {cost : Nat} {s t : State} {hi lo : Cell} (h : CallsTo i a cost s)
    (hhi : cellOf (s.cpu.sp - 1) s = some hi) (hlo : cellOf (s.cpu.sp - 2) s = some lo) (hne : hi ≠ lo) (ht : exec i s = .next t) :
    ∃ u, exec .ret t = .next u ∧ u.cpu = s.cpu ∧
      ∀ x, cellOf x s ≠ some hi → cellOf x s ≠ some lo → read8 x u = read8 x s := by
  obtain ⟨t', ht', hshape, hpushed⟩ := h
  cases ht.symm.trans ht'
  have hcpu : t.cpu = { s.cpu with sp := s.cpu.sp - 2, pc := a } := by rw [hshape]
  have hpc : popValue t = s.cpu.pc := hpushed.popValue_eq (by rw [hcpu]) hhi hlo hne
  refine ⟨_, (exec_ret t).trans (returnTo_eq 16 t), ?_, fun x hxhi hxlo => ?_⟩
  · simp only [hpc, hcpu, BitVec.sub_add_cancel]
  · exact (hpushed hi lo hhi hlo x).trans ((if_neg hxlo).trans (if_neg hxhi))

/-- Settles O26: both instructions push PC as a call, and RET pops it back. -/
theorem callThenReturn : Obligations.CallThenReturn := by
  rintro s t i hi lo (⟨nn, rfl⟩ | ⟨y, rfl⟩) hhi hlo hne ht
  · exact (callsTo_call_nn nn s).then_ret hhi hlo hne ht
  · exact (callsTo_rst y s).then_ret hhi hlo hne ht

end Sys2Proof.Machine
end

section
/-!
SUPPORT. Processor control, the illegal opcodes and the extended space (46_system.md R370 to R377).
-/

namespace Sys2Proof.Machine

/-- Settles O27: each of the four is `done` after the one change its operation makes. -/
theorem processorControl : Obligations.ProcessorControl := fun s => ⟨exec_nop s, exec_halt s, exec_di s, exec_ei s⟩

/-! STOP under each value of its parameter (R372). -/

theorem stop_of_refuse {s : State} (h : s.params.stop = .refuse) : stop s = .refused .stopUnspecified := by rw [stop, h]

theorem stop_of_halt {s : State} (h : s.params.stop = .halt) : stop s = halt s := by rw [stop, h]

theorem stop_of_nop {s : State} (h : s.params.stop = .nop) : stop s = complete s := by rw [stop, h]

/-- Settles O28: the padding byte is not looked at, and the parameter selects a refusal or the operation of HALT or of NOP. -/
theorem stopFollowsParameter : Obligations.StopFollowsParameter := fun s pad =>
  ⟨fun h => (exec_stop pad s).trans (stop_of_refuse h), fun h => (exec_stop pad s).trans (stop_of_halt h),
    fun h => (exec_stop pad s).trans (stop_of_nop h)⟩

/-- An illegal instruction is one byte, one of the eleven (R173). -/
theorem encode_illegal (ill : IllegalOp) : ∃ byte : Byte, encode (Instr.illegal ill) = [byte] ∧
    byte ∈ [0xD3, 0xDB, 0xDD, 0xE3, 0xE4, 0xEB, 0xEC, 0xED, 0xF4, 0xFC, 0xFD] := by
  cases ill <;> exact ⟨_, rfl, by decide⟩

/-- Settles O29: the byte an illegal instruction records is its encoding's only byte. -/
theorem illegalOpcodesFault : Obligations.IllegalOpcodesFault := by
  intro s ill
  obtain ⟨byte, hencode, hmem⟩ := encode_illegal ill
  refine ⟨byte, hencode, hmem, ?_⟩
  rw [exec_illegal, hencode]
  rfl

/-! The extended space (R172, R376). -/

/-- The decoder and the row of 0xCB select by the same fields. -/
theorem exec_decodeExtended (op2 : Byte) (s : State) : exec (decodeExtended op2) s = extended op2 s := by
  unfold decodeExtended extended
  dsimp only
  match fieldX op2, regField (fieldZ op2) with
  | 0, some r => exact exec_rotReg _ r s
  | 0, none => exact exec_rotAtHL _ s
  | 1, some r => exact exec_bitReg _ r s
  | 1, none => exact exec_bitAtHL _ s
  | 2, some r => exact exec_resReg _ r s
  | 2, none => exact exec_resAtHL _ s
  | 3, some r => exact exec_setReg _ r s
  | 3, none => exact exec_setAtHL _ s

/-- Each of the eight operations ends in `done`. -/
theorem extended_completes (op2 : Byte) (s : State) : ∃ t, extended op2 s = .next t := by
  unfold extended
  dsimp only
  split <;> exact ⟨_, rfl⟩

theorem decode_prefix_CB (op2 : Byte) : decode [0xCB, op2] = .ok (decodeExtended op2, []) :=
  decode_cons_of_le (rest := [op2]) (show opLength 0xCB ≤ 2 by decide)

/-- Settles O30: the two bytes decode to `decodeExtended`, which runs as `extended`, the operation of the row. -/
theorem prefixRunsExtended : Obligations.PrefixRunsExtended := by
  intro s op2
  obtain ⟨t, ht⟩ := extended_completes op2 s
  exact ⟨decodeExtended op2, t, decode_prefix_CB op2, (exec_decodeExtended op2 s).trans ht, (exec_prefix_CB op2 s).trans ht⟩

end Sys2Proof.Machine
end

section
/-!
SUPPORT. Resolution with IME clear, the fetch as decoding, and the delay of EI (46_system.md R375; 60_exceptions.md R413, R421).
-/

namespace Sys2Proof.Machine

/-- With IME clear no interrupt is serviced, whatever is pending: at most HALTED is released (R413). -/
theorem resolve_of_ime_clear {s : State} (h : s.cpu.ime = false) : resolve s = (s, 0) ∨ resolve s = (wake s, 0) := by
  unfold resolve
  split
  · exact .inl rfl
  · exact .inr (by simp [h])

theorem wake_of_running {s : State} (h : s.cpu.halted = false) : wake s = s := by simp [wake, ← h]

/-- Awake and with IME clear, resolution does nothing. -/
theorem resolve_of_ime_clear_of_running {s : State} (hime : s.cpu.ime = false) (hrun : s.cpu.halted = false) : resolve s = (s, 0) := by
  obtain h | h := resolve_of_ime_clear hime
  · exact h
  · rw [h, wake_of_running hrun]

theorem applyPendingEnable_of_clear {s : State} (h : s.cpu.imePending = false) : applyPendingEnable s = s := by
  simp [applyPendingEnable, h]

theorem applyPendingEnable_of_pending {s : State} (h : s.cpu.imePending = true) :
    applyPendingEnable s = { s with cpu := { s.cpu with ime := true, imePending := false } } := by
  simp [applyPendingEnable, h]

@[simp] theorem applyPendingEnable_pc (s : State) : (applyPendingEnable s).cpu.pc = s.cpu.pc := by
  unfold applyPendingEnable
  split <;> rfl

@[simp] theorem applyPendingEnable_read8 (s : State) (x : Word) : read8 x (applyPendingEnable s) = read8 x s := by
  unfold applyPendingEnable
  split <;> rfl

/-- The fetch passes as many bytes as the instruction has (R175, R421). -/
theorem skipInstr_eq (s : State) : skipInstr s = s.setPc (s.cpu.pc + BitVec.ofNat 16 (fetchInstr s).length) := by
  have h := opLength_of_encode (encode_decodeBytes (read8 s.cpu.pc s) (read8 (s.cpu.pc + 1) s) (read8 (s.cpu.pc + 2) s))
  rw [skipInstr, fetchInstr, Instr.length, encode_decodeBytes, List.length_cons, ← h]

theorem fetchInstr_applyPendingEnable (s : State) : fetchInstr (applyPendingEnable s) = fetchInstr s := by simp [fetchInstr]

/-- A running processor runs the instruction the three bytes at PC decode to, with PC past it and the pending enable applied (R421). -/
theorem cpuStep_decoded {s : State} (h : s.cpu.halted = false) :
    ∃ i rest, decode [read8 s.cpu.pc s, read8 (s.cpu.pc + 1) s, read8 (s.cpu.pc + 2) s] = .ok (i, rest) ∧
      cpuStep s = exec i ((applyPendingEnable s).setPc (s.cpu.pc + BitVec.ofNat 16 i.length)) := by
  refine ⟨fetchInstr s, _, decode_three _ _ _, ?_⟩
  rw [cpuStep_running h, skipInstr_eq, fetchInstr_applyPendingEnable, applyPendingEnable_pc]

/-- A step whose processor part completes ends with the devices (R420). -/
theorem step_of_cpuStep_next {s t : State} (hfault : s.fault = none) (h : cpuStep (resolve s).1 = .next t) :
    step s = .next (finish (resolve s).2 t) := by
  simp [step, coordinatorStep, hfault, h]

@[simp] theorem finish_cpu (ci : Nat) (s : State) : (finish ci s).cpu = s.cpu := by
  obtain ⟨_, _, _, _, h⟩ := finish_effect ci s
  rw [h]

theorem decodeBytes_ei (b1 b2 : Byte) : decodeBytes 0xFB b1 b2 = .ei := rfl

/-- EI at PC is run with PC past its one byte; it leaves IME and sets IME_PENDING (R375). -/
theorem cpuStep_ei {s : State} (hrun : s.cpu.halted = false) (hpending : s.cpu.imePending = false) (hop : read8 s.cpu.pc s = 0xFB) :
    cpuStep s = .next { s with cpu := { s.cpu with pc := s.cpu.pc + 1, imePending := true }, cycles := 4 } := by
  have hfetch : fetchInstr s = .ei := by rw [fetchInstr, hop, decodeBytes_ei]
  rw [cpuStep_running hrun, applyPendingEnable_of_clear hpending, skipInstr_eq, hfetch]
  rfl

/-- Settles O44: after EI the machine is awake with IME clear, so resolution does nothing; the enable is applied before the instruction the
next processor step runs. -/
theorem enableDelay : Obligations.EnableDelay := by
  intro s hfault hrun hime hpending hop
  have hresolve := resolve_of_ime_clear_of_running hime hrun
  obtain ⟨t, hstep, hcpu⟩ : ∃ t, step s = .next t ∧ t.cpu = { s.cpu with pc := s.cpu.pc + 1, imePending := true } :=
    ⟨_, step_of_cpuStep_next hfault (by rw [hresolve]; exact cpuStep_ei hrun hpending hop), finish_cpu _ _⟩
  have hrun' : t.cpu.halted = false := by rw [hcpu, hrun]
  have hresolve' : resolve t = (t, 0) := resolve_of_ime_clear_of_running (by rw [hcpu, hime]) hrun'
  obtain ⟨i, rest, hdecode, hexec⟩ := cpuStep_decoded hrun'
  refine ⟨t, hstep, hcpu, by rw [hresolve'], by rw [hresolve'], i, rest, hdecode, ?_⟩
  rw [hexec, applyPendingEnable_of_pending (by rw [hcpu]), State.setPc]

end Sys2Proof.Machine
end

section
/-!
SUPPORT. Interrupt resolution and the end of a step, as equations (60_exceptions.md R412 to R422), and the parked machine (R431 c).
-/

namespace Sys2Proof.Machine

/-! Resolution (R412 to R414). -/

theorem leastPending_eq_none_iff (pending : BitVec 5) : leastPending pending = none ↔ pending = 0 := by
  revert pending; decide

theorem leastPending_eq_some (pending : BitVec 5) (i : Fin 5) (hi : pending.getLsbD i = true)
    (hlower : ∀ j : Fin 5, j < i → pending.getLsbD j = false) : leastPending pending = some i := by
  revert pending i; decide

theorem resolve_of_ime_set {s : State} {i : Fin 5} (h : leastPending (s.ifl &&& s.ie) = some i) (hime : s.cpu.ime = true) :
    resolve s = (service (vector i) (acknowledge i (wake s)), s.params.intCycles) := by
  simp [resolve, h, hime]

theorem resolve_of_pending {s : State} (h : s.ifl &&& s.ie ≠ 0) (hime : s.cpu.ime = false) : resolve s = (wake s, 0) := by
  obtain ⟨i, hi⟩ := Option.ne_none_iff_exists'.mp (mt (leastPending_eq_none_iff _).mp h)
  simp [resolve, hi, hime]

theorem write8_with_cpu_only (a : Word) (v : Byte) (s : State) (c : Cpu) :
    write8 a v { s with cpu := c } = { write8 a v s with cpu := c } :=
  (write8_with_cpu a v s c s.cycles).trans (by simp only [write8_cycles])

/-- Service is the two bus writes of the push, then SP, PC and IME; the writes do not look at the processor. -/
theorem service_with_cpu (v : Word) (s : State) (c : Cpu) :
    service v { s with cpu := c } = { write8 (c.sp - 2) (loByte c.pc) (write8 (c.sp - 1) (hiByte c.pc) s) with
      cpu := { c with sp := c.sp - 2, pc := v, ime := false } } := by
  simp only [service, push16_eq, write8_with_cpu_only]
  rfl

/-- Settles O40: the least pending source decides, and its service is one push between the acknowledgement and the vector. -/
theorem interruptResolution : Obligations.InterruptResolution := by
  intro s pending
  refine ⟨resolve_idle, resolve_of_pending, ?_⟩
  intro i hi hbit hlower hime s1
  have hleast : leastPending pending = some ⟨i, hi⟩ := leastPending_eq_some pending ⟨i, hi⟩ hbit (fun j hj => hlower j hj)
  rw [resolve_of_ime_set hleast hime]
  exact congrArg (·, s.params.intCycles) (service_with_cpu (vector ⟨i, hi⟩) s1 { s.cpu with halted := false })

/-! The end of a step (R400, R420). -/

/-- Settles O42: `finish` is the two device phases, whose flags are or-ed into IF one after the other. -/
theorem devicesFollow : Obligations.DevicesFollow := by
  intro ci t
  refine ⟨?_, fun hfault => ?_⟩
  · intro hfault total tm px
    have hflag (b : Bool) : (if b then t.ifl ||| 0b00100#5 else t.ifl) = t.ifl ||| (if b then 0b00100#5 else 0) := by
      cases b <;> simp
    rw [finish_running ci hfault]
    simp only [ppuPhase, timerPhase, hflag]
    rfl
  · obtain ⟨r, hr⟩ := Option.ne_none_iff_exists'.mp hfault
    exact finish_of_fault ci hr

@[simp] theorem finish_fault (ci : Nat) (s : State) : (finish ci s).fault = s.fault := by
  obtain ⟨_, _, _, _, h⟩ := finish_effect ci s
  rw [h]

/-! The parked machine (R431 c). -/

/-- `s` with what a parked machine moves taken from `t`: IF, the timer, the returned number, and the scanline state with FRAME. -/
def State.withDevicesOf (s t : State) : State :=
  { s with
    ifl := t.ifl, timer := t.timer, cycles := t.cycles
    ppu := { s.ppu with
      mode := t.ppu.mode, modeClock := t.ppu.modeClock, ly := t.ppu.ly, statLine := t.ppu.statLine, frame := t.ppu.frame } }

theorem withDevicesOf_trans {s t u : State} (h : t = s.withDevicesOf t) (h' : u = t.withDevicesOf u) : u = s.withDevicesOf u :=
  calc u = t.withDevicesOf u := h'
    _ = (s.withDevicesOf t).withDevicesOf u := by rw [← h]
    _ = s.withDevicesOf u := rfl

theorem finish_withDevicesOf (ci : Nat) (s : State) : finish ci s = s.withDevicesOf (finish ci s) := by
  by_cases h : s.fault = none
  · obtain ⟨_, _, _, _, _, hppu⟩ := ppuStep_effect (ci + s.cycles) s.ppu
    rw [finish_running ci h]
    simp only [ppuPhase, timerPhase, State.withDevicesOf, hppu]
  · obtain ⟨r, hr⟩ := Option.ne_none_iff_exists'.mp h
    rw [finish_of_fault ci hr]
    rfl

/-- One step of a parked machine passes `HALT_CYCLES` to the devices. -/
theorem step_parked {s : State} (h : s.Parked) : ∃ t, step s = .next t ∧ t.Parked ∧ t = s.withDevicesOf t := by
  obtain ⟨hfault, hhalted, hie⟩ := h
  have hresolve : resolve s = (s, 0) := resolve_idle (by simp [hie])
  have hstep : step s = .next (finish 0 { s with cycles := s.params.haltCycles }) := by
    have := step_of_cpuStep_next hfault (by rw [hresolve]; exact cpuStep_halted hhalted)
    rwa [hresolve] at this
  have hdev := withDevicesOf_trans (s := s) (t := { s with cycles := s.params.haltCycles }) rfl (finish_withDevicesOf 0 _)
  refine ⟨_, hstep, ⟨?_, ?_, ?_⟩, hdev⟩
  · simp [hfault]
  · simp [hhalted]
  · rw [hdev]; exact hie

/-- Settles O45: by induction on the number of steps, each of which keeps the machine parked and moves the devices only. -/
theorem parkedForever : Obligations.ParkedForever := by
  intro s k
  induction k generalizing s with
  | zero => exact fun h => ⟨s, rfl, h, rfl⟩
  | succ k ih =>
    intro h
    obtain ⟨t, hstep, ht, hdev⟩ := step_parked h
    obtain ⟨u, hrun, hu, hdev'⟩ := ih t ht
    refine ⟨u, ?_, hu, withDevicesOf_trans hdev hdev'⟩
    have hcore : core.step s = .next t := hstep
    simp only [Host.Core.run, hcore]
    exact hrun

end Sys2Proof.Machine
end

section
/-!
SUPPORT. The instruction a step runs, the illegal opcodes, the cost of a step and the faults a step can record
(60_exceptions.md R400 to R403, R420, R421; 46_system.md R377).
-/

namespace Sys2Proof.Machine

theorem step_of_fault_none {s : State} (h : s.fault = none) :
    step s = match cpuStep (resolve s).1 with
      | .next t => .next (finish (resolve s).2 t)
      | .fault r => .fault r
      | .refused r => .refused r := by
  unfold step coordinatorStep
  split
  · rename_i hr
    cases h.symm.trans hr
  · rfl

/-- Settles O41: the fetch reads the bytes at PC and passes the length of what they decode to. -/
theorem stepRunsDecodedInstruction : Obligations.StepRunsDecodedInstruction := by
  intro s hfault r ci u pc
  refine ⟨fun hhalted => step_of_cpuStep_next hfault (cpuStep_halted hhalted), fun hrun => ?_⟩
  refine ⟨fetchInstr r, _, decode_three _ _ _, decodeBytes_wf _ _ _, ?_⟩
  have hcpu : cpuStep r = exec (fetchInstr r) (u.setPc (pc + BitVec.ofNat 16 (fetchInstr r).length)) := by
    rw [cpuStep_running hrun, skipInstr_eq, fetchInstr_applyPendingEnable, applyPendingEnable_pc]
    rfl
  rw [step_of_fault_none hfault, hcpu]
  rfl

/-! Illegal opcodes (R377, R400). -/

theorem decodeBytes_illegal {op : Byte} (h : op ∈ [0xD3, 0xDB, 0xDD, 0xE3, 0xE4, 0xEB, 0xEC, 0xED, 0xF4, 0xFC, 0xFD]) (b1 b2 : Byte) :
    ∃ ill, decodeBytes op b1 b2 = Instr.illegal ill ∧ encode (Instr.illegal ill) = [op] := by
  simp only [List.mem_cons, List.not_mem_nil, or_false] at h
  obtain rfl | rfl | rfl | rfl | rfl | rfl | rfl | rfl | rfl | rfl | rfl := h
  exacts [⟨.D3, rfl, rfl⟩, ⟨.DB, rfl, rfl⟩, ⟨.DD, rfl, rfl⟩, ⟨.E3, rfl, rfl⟩, ⟨.E4, rfl, rfl⟩, ⟨.EB, rfl, rfl⟩, ⟨.EC, rfl, rfl⟩,
    ⟨.ED, rfl, rfl⟩, ⟨.F4, rfl, rfl⟩, ⟨.FC, rfl, rfl⟩, ⟨.FD, rfl, rfl⟩]

/-- A running processor at an illegal opcode records it, with PC past the byte. -/
theorem cpuStep_illegal {s : State} (hrun : s.cpu.halted = false)
    (hop : read8 s.cpu.pc s ∈ [0xD3, 0xDB, 0xDD, 0xE3, 0xE4, 0xEB, 0xEC, 0xED, 0xF4, 0xFC, 0xFD]) :
    cpuStep s = .next (raiseFault .illegalOpcode s.cpu.pc (read8 s.cpu.pc s) ((applyPendingEnable s).setPc (s.cpu.pc + 1))) := by
  obtain ⟨ill, hdecode, hencode⟩ := decodeBytes_illegal hop (read8 (s.cpu.pc + 1) s) (read8 (s.cpu.pc + 2) s)
  have hfetch : fetchInstr s = Instr.illegal ill := hdecode
  have hlength : (Instr.illegal ill).length = 1 := by rw [Instr.length, hencode]; rfl
  rw [cpuStep_running hrun, skipInstr_eq, fetchInstr_applyPendingEnable, hfetch, hlength, exec_illegal, hencode, illegalOpcode]
  simp

/-- Settles O43: the illegal opcode writes FAULT alone, with which the devices are not stepped and no step follows. -/
theorem faultIsTerminal : Obligations.FaultIsTerminal := by
  intro s
  refine ⟨fun r => step_of_fault, fun hfault hidle hrun hop => ?_⟩
  have hresolve : resolve s = (s, 0) := resolve_idle hidle
  have hstep := step_of_cpuStep_next hfault (by rw [hresolve]; exact cpuStep_illegal hrun hop)
  rw [finish_of_fault _ rfl] at hstep
  refine ⟨_, hstep, rfl, rfl, rfl, ?_⟩
  unfold applyPendingEnable
  split <;> exact ⟨rfl, fun q => by cases q <;> rfl, rfl, rfl, fun _ => rfl, step_of_fault rfl⟩

/-! The cost of a step (R7, R414, R420). -/

/-- The outcome's next state, unless it has a fault, returns one of the costs of the opcode table. -/
def TableCost (o : Out) : Prop := ∀ t, o = .next t → t.fault = none → t.cycles ∈ [4, 8, 12, 16, 20, 24]

theorem TableCost.done {k : Nat} (h : k ∈ [4, 8, 12, 16, 20, 24]) (s : State) : TableCost (done k s) := by
  rintro t ht -
  cases ht
  exact h

theorem TableCost.ite {c : Prop} [Decidable c] {o o' : Out} (h : TableCost o) (h' : TableCost o') : TableCost (if c then o else o') := by
  split
  · exact h
  · exact h'

theorem illegalOpcode_tableCost (op : Byte) (s : State) : TableCost (illegalOpcode op s) := by
  intro t ht hfault
  cases ht
  cases hfault

theorem stop_tableCost (s : State) : TableCost (stop s) := by
  unfold stop
  split
  · rintro t ht
    cases ht
  · exact .done (by decide) _
  · exact .done (by decide) _

theorem extended_tableCost (op2 : Byte) (s : State) : TableCost (extended op2 s) := by
  unfold extended
  dsimp only
  split <;> exact .done (by decide) _

/-- Every row's operation ends in `done` with a cost of the table; a conditional transfer has one for each branch. -/
theorem exec_tableCost (i : Instr) (s : State) : TableCost (exec i s) := by
  induction i using Instr.byFamily
  case f_illegal ill => rw [exec_illegal]; exact illegalOpcode_tableCost _ s
  case f_stop => exact stop_tableCost s
  case f_prefix_CB op2 => exact extended_tableCost op2 s
  case f_jpCond | f_jrCond | f_callCond | f_retCond =>
    simp only [exec_jpCond, exec_jrCond, exec_callCond, exec_retCond]
    exact .ite (.done (by decide) _) (.done (by decide) _)
  all_goals
    simp
    exact .done (by decide) _

theorem cpuStep_tableCost {s : State} (h : s.params = Params.default) : TableCost (cpuStep s) := by
  unfold cpuStep
  split
  · exact .done (by simp [h, Params.default]) s
  · exact exec_tableCost _ _

/-- Resolution costs nothing or, with a service, `INT_CYCLES`. -/
theorem resolve_cost (s : State) : (resolve s).2 = 0 ∨ (resolve s).2 = s.params.intCycles := by
  unfold resolve
  split
  · exact .inl rfl
  split
  · exact .inr rfl
  · exact .inl rfl

@[simp] theorem resolve_params (s : State) : (resolve s).1.params = s.params := by
  obtain ⟨ifl, hreach⟩ := resolve_reach s
  exact hreach.keeps (P := fun t => t.params = s.params) (fun _ _ _ h => h) (fun _ _ _ h => (write8_params _ _ _).trans h) rfl

/-- Settles O46: the total is the cost of resolution and the cost of the table. -/
theorem stepCosts : Obligations.StepCosts := by
  intro s t hparams hstep hfault
  obtain ⟨-, u, hu, rfl⟩ := step_next_cases hstep
  rw [finish_fault] at hfault
  refine ⟨u.cycles, cpuStep_tableCost ((resolve_params s).trans hparams) u hu hfault, ?_⟩
  have htotal : (finish (resolve s).2 u).cycles = (resolve s).2 + u.cycles := by rw [finish_running _ hfault]
  have h20 : s.params.intCycles = 20 := by rw [hparams]; rfl
  obtain hcost | hcost := resolve_cost s
  · exact .inl (by omega)
  · exact .inr (by omega)

/-! Faults (R403, R408). -/

theorem cartTypeOf_eq_none_iff (t : Byte) :
    cartTypeOf t = none ↔ t ∉ [0x00, 0x01, 0x02, 0x03, 0x0F, 0x10, 0x11, 0x12, 0x13] := by revert t; decide

theorem cartTypeOf_eq_romOnly_iff (t : Byte) : cartTypeOf t = some .romOnly ↔ t = 0x00 := by revert t; decide

theorem cartTypeOf_eq_mbc1_iff (t : Byte) : cartTypeOf t = some .mbc1 ↔ t ∈ [0x01, 0x02, 0x03] := by revert t; decide

theorem cartTypeOf_eq_mbc3_iff (t : Byte) : cartTypeOf t = some .mbc3 ↔ t ∈ [0x0F, 0x10, 0x11, 0x12, 0x13] := by revert t; decide

/-- Reset looks at the type after the lengths of the boot image and the header (R532). -/
theorem resetWith_unsupported {args : ResetArgs} (hboot : ∀ image, args.boot = some image → image.length = 256)
    (hheader : 0x150 ≤ args.cart.length) (htype : cartTypeOf (args.cart.bytes.read 0x147) = none) :
    resetWith args = .fault (.terminal { kind := .unsupportedCartridge, address := 0x0147, value := args.cart.bytes.read 0x147 }) := by
  have hlength : ¬ args.cart.length < 0x150 := by omega
  unfold resetWith
  cases hb : args.boot with
  | none => simp [hlength, htype]
  | some image => simp [hboot image hb, hlength, htype]

/-- A step that starts without a fault records none but that of an illegal opcode. -/
theorem step_fault_kind {s t : State} (hs : s.fault = none) (h : step s = .next t) : ∀ r, t.fault = some r → r.kind = .illegalOpcode :=
  step_keeps (P := fun u => ∀ r, u.fault = some r → r.kind = .illegalOpcode)
    (fun _ _ _ _ h => h)
    (fun _ _ _ h => by simpa using h)
    (fun _ _ _ _ r hr => by cases hr; rfl)
    (fun _ _ h => by simpa using h)
    (fun r hr => by cases hs.symm.trans hr) h

/-- Settles O58: the decode of a type is a finite fact about its byte, and reset and the step by the two lemmas above. -/
theorem unsupportedCartridge : Obligations.UnsupportedCartridge := by
  refine ⟨?_, fun s t hs h => step_fault_kind hs h⟩
  intro args hboot hheader t
  exact ⟨cartTypeOf_eq_none_iff t, cartTypeOf_eq_romOnly_iff t, cartTypeOf_eq_mbc1_iff t, cartTypeOf_eq_mbc3_iff t,
    fun ht => resetWith_unsupported hboot hheader ((cartTypeOf_eq_none_iff t).mpr ht)⟩

end Sys2Proof.Machine
end

section
/-!
SUPPORT. The timer in closed form (60_exceptions.md R444 to R446), the DIV store (R441), the joypad (R452) and the LCDC store
(62_ppu.md R472, R482).
-/

namespace Sys2Proof.Machine

/-! The timer. -/

/-- A divider bit falls exactly at the multiples of twice its weight. -/
theorem falls_iff (v : BitVec 16) {b : Nat} (hb : b < 16) :
    (v.getLsbD b = true ∧ (v + 1).getLsbD b = false) ↔ 2 * 2 ^ b ∣ v.toNat + 1 := by
  have := v.isLt
  simp only [BitVec.getLsbD, BitVec.toNat_add, Nat.testBit_eq_decide_div_mod_eq, decide_eq_true_eq, decide_eq_false_iff_not,
    Nat.dvd_iff_mod_eq_zero]
  interval_cases b <;> simp <;> omega

/-- The period of TIMA in cycles (R444). -/
def Timer.period (t : Timer) : Nat := 2 * 2 ^ selBit t.tacSel

@[simp] theorem period_with (t : Timer) (d : BitVec 16) (x : Byte) : ({ t with div := d, tima := x } : Timer).period = t.period := rfl

theorem selBit_cases (sel : BitVec 2) : selBit sel = 9 ∨ selBit sel = 3 ∨ selBit sel = 5 ∨ selBit sel = 7 := by revert sel; decide

theorem period_eq (sel : BitVec 2) :
    2 * 2 ^ selBit sel = (match sel.toNat with | 0 => 1024 | 1 => 16 | 2 => 64 | _ => 256) := by
  revert sel; decide

/-- The multiples of the period among the `n` values after the divider's. -/
def Timer.ticks (n : Nat) (t : Timer) : Nat :=
  if t.tacEn then (t.div.toNat + n) / t.period - t.div.toNat / t.period else 0

/-- TIMA after it was ticked up to the integer `total`: past 255 it counts from TMA with the period 256 - TMA (R446). -/
def timaAt (tma : Byte) (total : Nat) : Nat := if total < 256 then total else tma.toNat + (total - 256) % (256 - tma.toNat)

theorem timaAt_of_lt (tma : Byte) {total : Nat} (h : total < 256) : timaAt tma total = total := if_pos h

theorem timaAt_of_le (tma : Byte) {total : Nat} (h : 256 ≤ total) : timaAt tma total = tma.toNat + (total - 256) % (256 - tma.toNat) :=
  if_neg (by omega)

theorem timaAt_lt (tma : Byte) (total : Nat) : timaAt tma total < 256 := by
  obtain h | h := Nat.lt_or_ge total 256
  · rwa [timaAt_of_lt tma h]
  · have := Nat.mod_lt (total - 256) (show 256 - tma.toNat > 0 by omega)
    rw [timaAt_of_le tma h]
    omega

theorem succ_mod_eq_ite (x : Nat) {m : Nat} (hm : 0 < m) : (x + 1) % m = if x % m + 1 = m then 0 else x % m + 1 := by
  have := Nat.mod_lt x hm
  rw [← Nat.mod_add_mod]
  split
  · rename_i h
    rw [h, Nat.mod_self]
  · exact Nat.mod_eq_of_lt (by omega)

/-- A tick adds 1, and from 255 reloads TMA. -/
theorem timaAt_succ (tma : Byte) (total : Nat) :
    timaAt tma (total + 1) = if timaAt tma total + 1 = 256 then tma.toNat else timaAt tma total + 1 := by
  obtain h | rfl | h := Nat.lt_trichotomy total 255
  · rw [timaAt_of_lt tma (by omega), timaAt_of_lt tma (by omega), if_neg (by omega)]
  · simp [timaAt]
  · have hm : 0 < 256 - tma.toNat := by omega
    have := Nat.mod_lt (total - 256) hm
    rw [timaAt_of_le tma (by omega), timaAt_of_le tma (by omega), show total + 1 - 256 = total - 256 + 1 by omega, succ_mod_eq_ite _ hm]
    split <;> split <;> omega

/-- The tick to `total + 1` or one before it overflowed. -/
theorem overflows_succ_iff (tma : Byte) (total : Nat) : (256 ≤ total ∨ timaAt tma total + 1 = 256) ↔ 256 ≤ total + 1 := by
  obtain h | h := Nat.lt_or_ge total 256
  · rw [timaAt_of_lt tma h]
    omega
  · omega

theorem timaTick_ofNat {t : Timer} {x : Nat} (hx : x < 256) (h : t.tima = BitVec.ofNat 8 x) :
    timaTick t = ({ t with tima := BitVec.ofNat 8 (if x + 1 = 256 then t.tma.toNat else x + 1) }, decide (x + 1 = 256)) := by
  have hnat : t.tima.toNat = x := by rw [h, BitVec.toNat_ofNat]; omega
  unfold timaTick
  rw [hnat]
  split
  · simp [*]
  · simp [*, BitVec.ofNat_add]

/-- A cycle ticks TIMA when the divider comes to a multiple of the period. -/
theorem timerCycle_eq (t : Timer) :
    timerCycle t = if t.tacEn = true ∧ t.period ∣ t.div.toNat + 1 then timaTick { t with div := t.div + 1 }
      else ({ t with div := t.div + 1 }, false) := by
  have hbit : selBit t.tacSel < 16 := by have := selBit_cases t.tacSel; omega
  unfold timerCycle
  exact if_congr (by simp only [Bool.and_eq_true, Bool.not_eq_true', and_assoc, falls_iff t.div hbit, Timer.period]) rfl rfl

theorem ticks_succ (n : Nat) (t : Timer) :
    t.ticks (n + 1) = t.ticks n + if t.tacEn = true ∧ t.period ∣ t.div.toNat + n + 1 then 1 else 0 := by
  unfold Timer.ticks
  split
  · have := Nat.div_le_div_right (c := t.period) (Nat.le_add_right t.div.toNat n)
    rw [← Nat.add_assoc, Nat.succ_div]
    simp only [*, true_and]
    omega
  · simp [*]

/-- The period divides 65536, so the divider's wrap does not show. -/
theorem period_dvd_div_iff (t : Timer) (n : Nat) :
    t.period ∣ (t.div + BitVec.ofNat 16 n).toNat + 1 ↔ t.period ∣ t.div.toNat + n + 1 := by
  have hwrap : t.period ∣ 2 ^ 16 := by
    unfold Timer.period
    obtain h | h | h | h := selBit_cases t.tacSel <;> rw [h] <;> decide
  rw [BitVec.toNat_add, BitVec.toNat_ofNat, Nat.add_mod_mod, Nat.dvd_iff_mod_eq_zero, Nat.dvd_iff_mod_eq_zero, Nat.add_mod,
    Nat.mod_mod_of_dvd _ hwrap, ← Nat.add_mod]

/-- Stepping the timer, by induction on the cycles: the last one ticks TIMA or not. -/
theorem timerStep_eq (n : Nat) (t : Timer) :
    timerStep n t =
      ({ t with div := t.div + BitVec.ofNat 16 n, tima := BitVec.ofNat 8 (timaAt t.tma (t.tima.toNat + t.ticks n)) },
        decide (256 ≤ t.tima.toNat + t.ticks n)) := by
  induction n with
  | zero => simp [timerStep, Timer.ticks, timaAt, t.tima.isLt]
  | succ n ih =>
    have hdiv : t.div + BitVec.ofNat 16 n + 1 = t.div + BitVec.ofNat 16 (n + 1) := by rw [BitVec.add_assoc, BitVec.ofNat_add]; rfl
    have hone (u : Timer) : timerStep 1 u = timerCycle u := by simp [timerStep]
    rw [timerStep_add, ih, hone, timerCycle_eq, ticks_succ]
    simp only [hdiv, period_with, period_dvd_div_iff]
    split
    · rw [timaTick_ofNat (timaAt_lt _ _) rfl, ← Nat.add_assoc, timaAt_succ]
      simp only [← Bool.decide_or, overflows_succ_iff]
    · simp

/-- Settles O48: the closed form holds of `timerStep`, by induction on the cycles. -/
theorem timerClosedForm : Obligations.TimerClosedForm := by
  intro n t period ticks total tima
  have h := timerStep_eq n t
  refine ⟨congrArg Prod.fst h, ?_, period_eq t.tacSel⟩
  rw [h]
  exact decide_eq_true_iff

/-! The DIV store (R441). -/

theorem timaTick_of_max {t : Timer} (h : t.tima = 0xFF) : timaTick t = ({ t with tima := t.tma }, true) :=
  if_pos (by rw [h]; rfl)

theorem timaTick_of_ne_max {t : Timer} (h : t.tima ≠ 0xFF) : timaTick t = ({ t with tima := t.tima + 1 }, false) :=
  if_neg fun hmax => h (BitVec.eq_of_toNat_eq (Nat.succ.inj hmax))

/-- Settles O49: the store clears the divider, and ticks TIMA where the selected bit was 1. -/
theorem dividerStore : Obligations.DividerStore := by
  intro s v bit tick wraps
  have hstore : write8 0xFF04 v s = divStore s := rfl
  have hwrite : divWrite s.timer = if tick then timaTick { s.timer with div := 0 } else ({ s.timer with div := 0 }, false) := rfl
  rw [hstore, divStore, hwrite]
  cases htick : tick with
  | false =>
    have hwraps : wraps = false := by simp only [wraps, htick, Bool.false_and]
    rw [hwraps]
    rfl
  | true =>
    by_cases hmax : s.timer.tima = 0xFF
    · have hwraps : wraps = true := by simp only [wraps, htick, hmax, decide_true, Bool.true_and]
      rw [hwraps, if_pos rfl, timaTick_of_max (t := { s.timer with div := 0 }) hmax]
      rfl
    · have hwraps : wraps = false := by simp only [wraps, htick, hmax, decide_false, Bool.and_false]
      rw [hwraps, if_pos rfl, timaTick_of_ne_max (t := { s.timer with div := 0 }) hmax]
      rfl

/-! The joypad (R452). -/

/-- An output line of P1 is low where a selected group has that line pressed. -/
theorem p1Low_getLsbD (j : Joypad) {k : Nat} (hk : k < 4) :
    (p1Low j).getLsbD k = !((!j.sel.getLsbD 0 && j.lines.getLsbD k) || (!j.sel.getLsbD 1 && j.lines.getLsbD (k + 4))) := by
  have hgroup (off : Bool) (start : Nat) :
      (if off then 0#4 else j.lines.extractLsb' start 4).getLsbD k = (!off && j.lines.getLsbD (start + k)) := by
    cases off <;> simp [hk]
  rw [p1Low, BitVec.getLsbD_not, BitVec.getLsbD_or, hgroup, hgroup, Nat.zero_add, Nat.add_comm 4 k]
  simp [hk]

theorem p1Read_getLsbD (j : Joypad) {k : Nat} (hk : k < 4) : (p1Read j).getLsbD k = (p1Low j).getLsbD k := by
  rw [p1Read, BitVec.getLsbD_append, if_pos (by omega), BitVec.getLsbD_append, if_pos hk]

/-- The mask of the falling lines is zero where no line falls. -/
theorem and_not_eq_zero_iff (before after : BitVec 4) :
    before &&& ~~~after = 0 ↔ ¬∃ k, k < 4 ∧ before.getLsbD k = true ∧ after.getLsbD k = false := by
  revert before after; decide

/-- Settles O55: the low nibble of P1 is its four output lines, and a falling one raises IF bit 4. -/
theorem joypad : Obligations.Joypad := by
  intro s lines out
  refine ⟨fun k hk => (p1Read_getLsbD s.joypad hk).trans (p1Low_getLsbD s.joypad hk), _, rfl, ?_⟩
  have hfell : p1Low s.joypad &&& ~~~p1Low { s.joypad with lines := lines } = 0 ↔
      ¬∃ k, k < 4 ∧ out s.joypad.lines k = true ∧ out lines k = false :=
    (and_not_eq_zero_iff _ _).trans (not_congr (exists_congr fun k => and_congr_right fun hk => by
      rw [p1Low_getLsbD _ hk, p1Low_getLsbD _ hk]))
  by_cases h : ∃ k, k < 4 ∧ out s.joypad.lines k = true ∧ out lines k = false
  · rw [if_pos h]
    exact if_neg (mt hfell.mp (not_not_intro h))
  · rw [if_neg h]
    exact if_pos (hfell.mpr h)

/-! The LCDC store (R472, R482). -/

/-- Settles O52: the old and the new value of bit 7 decide. -/
theorem displaySwitch : Obligations.DisplaySwitch := by
  intro s v p on on'
  have hstore : write8 0xFF40 v s = { s with ppu := lcdcWrite p v } := rfl
  have hwrite : lcdcWrite p v = match on, on' with
      | true, false => { p with lcdc := v, mode := .hblank, modeClock := 0, ly := 0 }
      | false, true => { p with lcdc := v, mode := .oamSearch, modeClock := 0, ly := 0 }
      | _, _ => { p with lcdc := v } := rfl
  rw [hstore, hwrite]
  cases on <;> cases on' <;> rfl

end Sys2Proof.Machine
end

section
/-!
SUPPORT. The scanline state machine as a counter (62_ppu.md R480 to R484) and the status line (R486).
-/

namespace Sys2Proof.Machine

/-! Positions of the frame. -/

/-- The cycle of its line at which a mode begins (R481). -/
def PpuMode.start : PpuMode → Nat
  | .oamSearch | .vblank => 0
  | .transfer => 80
  | .hblank => 252

/-- The position of the frame at which the current mode of the current line began. -/
def modeStart (p : Ppu) : Nat := 456 * p.ly.toNat + p.mode.start

theorem framePosition_eq (p : Ppu) : framePosition p = modeStart p + p.modeClock := Nat.add_right_comm _ _ _

/-- The end of a mode comes before v-blank entry, at it, or in the rest of the frame. -/
theorem Ppu.Legal.modeEnd_cases {p : Ppu} (h : p.Legal) :
    modeStart p + p.mode.duration ≤ 65664 ∨ 65664 ≤ modeStart p ∧ modeStart p + p.mode.duration ≤ 70224 := by
  have hly := h.ly
  have hv := h.vblank
  unfold modeStart
  cases hm : p.mode <;> simp [hm] at hv <;> simp only [PpuMode.start, PpuMode.duration] <;> omega

theorem Ppu.Inv.framePosition_lt {p : Ppu} (h : p.Inv) : framePosition p < 70224 := by
  have hclock := h.clock
  have hend := h.legal.modeEnd_cases
  rw [framePosition_eq]
  omega

/-- An expiry goes to the start of the next mode, which is where this one ends, or position 0 after line 153; the flag says that v-blank
is entered. -/
theorem ppuExpire_modeStart {p : Ppu} (h : p.Legal) :
    (modeStart (ppuExpire p).1 = modeStart p + p.mode.duration ∨
      modeStart (ppuExpire p).1 = 0 ∧ modeStart p + p.mode.duration = 70224) ∧
    ((ppuExpire p).2 = true ↔ modeStart p + p.mode.duration = 65664) := by
  have hly := h.ly
  have hv := h.vblank
  have hnext : (p.ly + 1).toNat = p.ly.toNat + 1 := by bv_omega
  have hlast (n : Nat) (hn : n < 256) : p.ly + 1 = BitVec.ofNat 8 n ↔ p.ly.toNat + 1 = n := by
    rw [← BitVec.toNat_inj, hnext, BitVec.toNat_ofNat, Nat.mod_eq_of_lt hn]
  unfold ppuExpire
  split
  next hm =>
    have hlt : p.ly.toNat < 144 := by simpa [hm] using hv
    refine ⟨.inl ?_, ?_⟩ <;> simp [modeStart, hm, PpuMode.start, PpuMode.duration]
    omega
  next hm =>
    have hlt : p.ly.toNat < 144 := by simpa [hm] using hv
    obtain ⟨f, hf⟩ := renderScanline_effect p
    refine ⟨.inl ?_, ?_⟩ <;> simp [hf, modeStart, hm, PpuMode.start, PpuMode.duration]
    omega
  next hm =>
    have hlt : p.ly.toNat < 144 := by simpa [hm] using hv
    split
    next h144 =>
      have := (hlast 144 (by decide)).mp h144
      refine ⟨.inl ?_, ?_⟩ <;>
        simp only [modeStart, hm, PpuMode.start, PpuMode.duration, hnext, true_iff] <;> omega
    next h144 =>
      have := mt (hlast 144 (by decide)).mpr h144
      refine ⟨.inl ?_, ?_⟩ <;>
        simp only [modeStart, hm, PpuMode.start, PpuMode.duration, hnext, Bool.false_eq_true, false_iff] <;> omega
  next hm =>
    have hge : 144 ≤ p.ly.toNat := hv.mp hm
    split
    next h154 =>
      have := (hlast 154 (by decide)).mp h154
      refine ⟨.inr ⟨rfl, ?_⟩, ?_⟩ <;>
        simp only [modeStart, hm, PpuMode.start, PpuMode.duration, Bool.false_eq_true, false_iff] <;> omega
    next h154 =>
      have := mt (hlast 154 (by decide)).mpr h154
      refine ⟨.inl ?_, ?_⟩ <;>
        simp only [modeStart, hm, PpuMode.start, PpuMode.duration, hnext, Bool.false_eq_true, false_iff] <;> omega

/-! Passing v-blank entry (R483). -/

/-- Some number in the interval (a, b] is v-blank entry, of any frame. -/
def PassesVblank (a b : Nat) : Prop := ∃ k, a < k ∧ k ≤ b ∧ k % 70224 = 65664

theorem passesVblank_next_frame (a b : Nat) : PassesVblank (70224 + a) (70224 + b) ↔ PassesVblank a b := by
  constructor
  · rintro ⟨k, hak, hkb, hk⟩
    exact ⟨k - 70224, by omega, by omega, by omega⟩
  · rintro ⟨k, hak, hkb, hk⟩
    exact ⟨70224 + k, by omega, by omega, by omega⟩

theorem passesVblank_split {a m b : Nat} (ham : a ≤ m) (hmb : m ≤ b) : PassesVblank a b ↔ PassesVblank a m ∨ PassesVblank m b := by
  constructor
  · rintro ⟨k, hak, hkb, hk⟩
    obtain hkm | hkm := Nat.lt_or_ge m k
    · exact .inr ⟨k, hkm, hkb, hk⟩
    · exact .inl ⟨k, hak, hkm, hk⟩
  · rintro (⟨k, hak, hkm, hk⟩ | ⟨k, hmk, hkb, hk⟩)
    · exact ⟨k, hak, by omega, hk⟩
    · exact ⟨k, by omega, hkb, hk⟩

theorem Ppu.Legal.not_passesVblank {p : Ppu} (h : p.Legal) {b : Nat} (hb : b < modeStart p + p.mode.duration) :
    ¬PassesVblank (modeStart p) b := by
  have hend := h.modeEnd_cases
  rintro ⟨k, hak, hkb, hk⟩
  omega

theorem Ppu.Legal.passesVblank_modeEnd_iff {p : Ppu} (h : p.Legal) :
    PassesVblank (modeStart p) (modeStart p + p.mode.duration) ↔ modeStart p + p.mode.duration = 65664 := by
  have hd := p.mode.duration_pos
  have hend := h.modeEnd_cases
  constructor
  · rintro ⟨k, hak, hkb, hk⟩
    omega
  · exact fun h65664 => ⟨65664, by omega, by omega, by decide⟩

/-! The loop of `ppu_step` (R480). -/

/-- From a legal place whose MODE_CLOCK may hold the cycles of later modes, the loop keeps the position modulo the frame and reports whether
v-blank entry lies behind the start of the mode. -/
theorem ppuLoop_position (k : Nat) (p : Ppu) (hk : p.modeClock ≤ k) (h : p.Legal) :
    framePosition (ppuLoop k p).1 % 70224 = framePosition p % 70224 ∧
      ((ppuLoop k p).2 = true ↔ PassesVblank (modeStart p) (framePosition p)) := by
  have hd := p.mode.duration_pos
  induction k generalizing p with
  | zero =>
    refine ⟨rfl, iff_of_false Bool.false_ne_true (h.not_passesVblank ?_)⟩
    rw [framePosition_eq]
    omega
  | succ k ih =>
    unfold ppuLoop
    split
    next hin =>
      refine ⟨rfl, iff_of_false Bool.false_ne_true (h.not_passesVblank ?_)⟩
      rw [framePosition_eq]
      omega
    next hout =>
      let q : Ppu := { p with modeClock := p.modeClock - p.mode.duration }
      have hq : q.Legal := { h with }
      have hclock : (ppuExpire q).1.modeClock = p.modeClock - p.mode.duration := by
        obtain ⟨_, _, _, he⟩ := ppuExpire_effect q
        rw [he]
      obtain ⟨hnext, hflag⟩ : (modeStart (ppuExpire q).1 = modeStart p + p.mode.duration ∨
          modeStart (ppuExpire q).1 = 0 ∧ modeStart p + p.mode.duration = 70224) ∧
          ((ppuExpire q).2 = true ↔ modeStart p + p.mode.duration = 65664) := ppuExpire_modeStart hq
      obtain ⟨ihpos, ihflag⟩ := ih (ppuExpire q).1 (by omega) (ppuExpire_legal hq) (PpuMode.duration_pos _)
      rw [framePosition_eq (ppuExpire q).1, hclock] at ihpos ihflag
      rw [framePosition_eq p, passesVblank_split (Nat.le_add_right _ p.mode.duration) (by omega), h.passesVblank_modeEnd_iff, ← hflag,
        Bool.or_eq_true]
      obtain hstart | ⟨hstart, hend⟩ := hnext
      · have hsum : modeStart p + p.mode.duration + (p.modeClock - p.mode.duration) = modeStart p + p.modeClock := by omega
        rw [hstart, hsum] at ihpos ihflag
        exact ⟨ihpos, or_congr_right ihflag⟩
      · have hsum : modeStart p + p.modeClock = 70224 + (0 + (p.modeClock - p.mode.duration)) := by omega
        rw [hstart] at ihpos ihflag
        rw [hsum, hend, Nat.add_mod_left]
        exact ⟨ihpos, or_congr_right (ihflag.trans (passesVblank_next_frame 0 _).symm)⟩

/-- Settles O50: MODE_CLOCK takes the cycles first, which moves the position by n; the loop then settles it below the mode's duration. -/
theorem scanlineCounter : Obligations.ScanlineCounter := by
  intro n p hinv hon r
  let q : Ppu := { p with modeClock := p.modeClock + n }
  have hq : q.Legal := { hinv.legal with }
  have hposition : framePosition q = framePosition p + n := by
    rw [framePosition_eq, framePosition_eq, Nat.add_assoc]
    rfl
  have hr : r.1.Inv := ppuLoop_inv _ q le_rfl hon hq
  obtain ⟨hpos, hflag⟩ : framePosition r.1 % 70224 = framePosition q % 70224 ∧
      (r.2 = true ↔ PassesVblank (modeStart p) (framePosition q)) := ppuLoop_position _ q le_rfl hq
  rw [hposition] at hpos hflag
  refine ⟨by rwa [Nat.mod_eq_of_lt hr.framePosition_lt] at hpos, hr, ?_, ?_⟩
  · obtain ⟨_, _, _, _, heffect⟩ := ppuLoop_effect q.modeClock q
    have hr1 : r.1 = (ppuLoop q.modeClock q).1 := rfl
    rw [hr1, heffect]
  · have hinside : framePosition p < modeStart p + p.mode.duration := by
      have := hinv.clock
      rw [framePosition_eq]
      omega
    rw [hflag, passesVblank_split (framePosition_eq p ▸ Nat.le_add_right _ _) (Nat.le_add_right _ n)]
    exact or_iff_right (hinv.legal.not_passesVblank hinside)

/-! The status line (R486). -/

theorem statCond_iff (p : Ppu) :
    statCond p = true ↔ p.lcdc.getLsbD 7 = true ∧
      ((p.mode = .hblank ∧ p.statEn.getLsbD 0 = true) ∨ (p.mode = .vblank ∧ p.statEn.getLsbD 1 = true) ∨
        (p.mode = .oamSearch ∧ p.statEn.getLsbD 2 = true) ∨ (p.ly = p.lyc ∧ p.statEn.getLsbD 3 = true)) := by
  simp [statCond, or_assoc]

/-- What `ppu_step` does before the status line: it advances while the display is on. -/
def ppuScan (n : Nat) (p : Ppu) : Ppu × Bool := if p.lcdc.getLsbD 7 then ppuAdvance n p else (p, false)

theorem ppuScan_effect (n : Nat) (p : Ppu) :
    ∃ mode clock ly frame, (ppuScan n p).1 = { p with mode := mode, modeClock := clock, ly := ly, frame := frame } := by
  unfold ppuScan
  split
  · exact ppuLoop_effect (p.modeClock + n) { p with modeClock := p.modeClock + n }
  · exact ⟨p.mode, p.modeClock, p.ly, p.frame, rfl⟩

theorem ppuStep_eq (n : Nat) (p : Ppu) :
    ppuStep n p = ({ (ppuScan n p).1 with statLine := statCond (ppuScan n p).1 },
      (if (ppuScan n p).2 then 0b00001#5 else 0) ||| (if statCond (ppuScan n p).1 && !p.statLine then 0b00010#5 else 0)) := by
  obtain ⟨_, _, _, _, h⟩ := ppuScan_effect n p
  have hline : (ppuScan n p).1.statLine = p.statLine := by rw [h]
  rw [← hline]
  rfl

/-- IF bit 1 of the two flags or-ed. -/
theorem getLsbD_one_flags (vblank rise : Bool) :
    (((if vblank then 0b00001#5 else 0) ||| (if rise then 0b00010#5 else 0)) : BitVec 5).getLsbD 1 = rise := by
  cases vblank <;> cases rise <;> rfl

/-- Settles O51: the latch takes the condition of the scan's result, which has the enables and the latch of before. -/
theorem statusLine : Obligations.StatusLine := by
  intro n p r q cond
  obtain ⟨_, _, _, _, h⟩ := ppuScan_effect n p
  have hstep : r = _ := ppuStep_eq n p
  have hcond : statCond (ppuScan n p).1 = true ↔ cond := by
    rw [statCond_iff]
    simp only [cond, q, hstep, h]
  refine ⟨?_, ?_, fun hoff => ?_⟩
  · simp only [q, hstep]
    exact hcond
  · rw [hstep, getLsbD_one_flags, Bool.and_eq_true, hcond, Bool.not_eq_true']
  · have hscan : ppuScan n p = (p, false) := by simp only [ppuScan, hoff, Bool.false_eq_true, if_false]
    have hfalse : statCond p = false := by simp only [statCond, hoff, Bool.false_and]
    simp [q, hstep, hscan, hfalse]

end Sys2Proof.Machine
end

section
/-!
SUPPORT. FRAME by rows (62_ppu.md R464), and tile pixels and shades as numbers (R462, R463): the background and window pass of a line
(R490 to R492, R495, R497).
-/

namespace Sys2Proof.Machine

/-! FRAME. -/

theorem frameRow_setFrameRow_same (y : Nat) (row : Row) (f : List (Nat × Row)) : frameRow y (setFrameRow y row f) = some row := by
  induction f with
  | nil => simp [setFrameRow, frameRow]
  | cons e f ih =>
    obtain ⟨k, old⟩ := e
    unfold setFrameRow
    split
    · simp [frameRow]
    split
    · simp [frameRow]
    · rw [frameRow, if_neg (by omega), ih]

theorem frameRow_setFrameRow_other {y z : Nat} (h : z ≠ y) (row : Row) (f : List (Nat × Row)) :
    frameRow z (setFrameRow y row f) = frameRow z f := by
  induction f with
  | nil => simp [setFrameRow, frameRow, h.symm]
  | cons e f ih =>
    obtain ⟨k, old⟩ := e
    unfold setFrameRow
    split
    · rw [frameRow, if_neg h.symm]
    split
    next heq => rw [frameRow, if_neg h.symm, frameRow, if_neg (heq ▸ h.symm)]
    next => rw [frameRow, frameRow, ih]

/-! Tile pixels and shades as numbers. -/

theorem shade_eq_ofNat (palette : Byte) (raw : BitVec 2) : shade palette raw = BitVec.ofNat 2 (palette.toNat / 4 ^ raw.toNat) := by
  rw [shade, BitVec.extractLsb', Nat.shiftRight_eq_div_pow, Nat.pow_mul]

/-- The number of the pixel that bit `b` of the two bytes of a tile row makes, the first at offset `a` of video RAM (R462). -/
def planePixel (p : Ppu) (a b : Nat) : Nat := 2 * ((p.vram.read (a + 1)).getLsbD b).toNat + ((p.vram.read (a + 0)).getLsbD b).toNat

theorem tilePixel_eq_ofNat (p : Ppu) {t a : Nat} (ht : t = 0x8000 + a) (r c : Nat) :
    tilePixel p t r c = BitVec.ofNat 2 (planePixel p (a + 2 * r) (7 - c)) := by
  have hall : ∀ hi lo : Bool, BitVec.ofBool hi ++ BitVec.ofBool lo = BitVec.ofNat 2 (2 * hi.toNat + lo.toNat) := by decide
  have hhi : t + 2 * r + 1 - 0x8000 = a + 2 * r + 1 := by rw [ht, Nat.add_assoc, Nat.add_assoc, Nat.add_sub_cancel_left, Nat.add_assoc]
  have hlo : t + 2 * r - 0x8000 = a + 2 * r := by rw [ht, Nat.add_assoc, Nat.add_sub_cancel_left]
  rw [tilePixel, vramAt, vramAt, hhi, hlo, hall]
  rfl

theorem planePixel_lt (p : Ppu) (a b : Nat) : planePixel p a b < 4 := by
  have hall : ∀ hi lo : Bool, 2 * hi.toNat + lo.toNat < 4 := by decide
  exact hall _ _

/-! The background and window pass. -/

/-- The offset of a tile in video RAM: both ways of R497 agree from tile 128 on. -/
def bgTileOffset (p : Ppu) (id : Nat) : Nat := if p.lcdc.getLsbD 4 ∨ 128 ≤ id then 16 * id else 0x1000 + 16 * id

theorem bgTileAddr_eq (p : Ppu) (id : Byte) : bgTileAddr p id = 0x8000 + bgTileOffset p id.toNat := by
  have := id.isLt
  unfold bgTileAddr bgTileOffset
  split
  · rw [if_pos (.inl ‹_›)]
  split
  · rw [if_neg (by simp only [*, false_or, Bool.false_eq_true]; omega)]
    omega
  · rw [if_pos (.inr (by omega))]
    omega

/-- The number of the pixel at column `px`, row `py` of the plane whose map is at offset `map` of video RAM (R461). -/
def mapNumber (p : Ppu) (map px py : Nat) : Nat :=
  planePixel p (bgTileOffset p (p.vram.read (map + 32 * (py / 8) + px / 8)).toNat + 2 * (py % 8)) (7 - px % 8)

theorem mapPixel_eq_ofNat (p : Ppu) (map px py : Nat) : mapPixel p (0x8000 + map) px py = BitVec.ofNat 2 (mapNumber p map px py) := by
  have hoffset : 0x8000 + map + 32 * (py / 8) + px / 8 - 0x8000 = map + 32 * (py / 8) + px / 8 := by
    rw [Nat.add_assoc, Nat.add_assoc, Nat.add_sub_cancel_left, Nat.add_assoc]
  rw [mapPixel, vramAt, hoffset]
  exact tilePixel_eq_ofNat p (bgTileAddr_eq p _) _ _

theorem mapBase_eq (b : Bool) : (if b then 0x9C00 else 0x9800) = 0x8000 + (if b then 0x1C00 else 0x1800) := by cases b <;> rfl

theorem layerRaw_off {p : Ppu} (h : p.lcdc.getLsbD 0 = false) (x : Nat) : layerRaw p x = 0 := if_neg (by simp only [h]; decide)

theorem layerRaw_window {p : Ppu} {x : Nat} (h : p.lcdc.getLsbD 0 = true)
    (hw : p.lcdc.getLsbD 5 = true ∧ p.wy.toNat ≤ p.ly.toNat ∧ p.wx.toNat ≤ x + 7) :
    layerRaw p x = BitVec.ofNat 2
      (mapNumber p (if p.lcdc.getLsbD 6 then 0x1C00 else 0x1800) (x + 7 - p.wx.toNat) (p.ly.toNat - p.wy.toNat)) := by
  obtain ⟨hon, hwy, hwx⟩ := hw
  have hcovers : windowCovers p x = true := by simp only [windowCovers, h, hon, hwy, hwx, decide_true, Bool.and_self]
  rw [layerRaw, if_pos h, if_pos hcovers, windowRaw, mapBase_eq, mapPixel_eq_ofNat]

theorem layerRaw_background {p : Ppu} {x : Nat} (h : p.lcdc.getLsbD 0 = true)
    (hw : ¬(p.lcdc.getLsbD 5 = true ∧ p.wy.toNat ≤ p.ly.toNat ∧ p.wx.toNat ≤ x + 7)) :
    layerRaw p x = BitVec.ofNat 2
      (mapNumber p (if p.lcdc.getLsbD 3 then 0x1C00 else 0x1800) ((x + p.scx.toNat) % 256) ((p.ly.toNat + p.scy.toNat) % 256)) := by
  have hcovers : windowCovers p x ≠ true := fun hc => hw (by
    simp only [windowCovers, Bool.and_eq_true, decide_eq_true_eq, and_assoc] at hc
    exact hc.2)
  rw [layerRaw, if_pos h, if_neg hcovers, backgroundRaw, mapBase_eq, mapPixel_eq_ofNat]

theorem layerShade_of_raw {p : Ppu} {x raw : Nat} (hlt : raw < 4) (h : p.lcdc.getLsbD 0 = true → layerRaw p x = BitVec.ofNat 2 raw) :
    layerShade p x = if p.lcdc.getLsbD 0 then BitVec.ofNat 2 (p.bgp.toNat / 4 ^ raw) else 0 := by
  unfold layerShade
  split
  · rw [h ‹_›, shade_eq_ofNat, BitVec.toNat_ofNat, Nat.mod_eq_of_lt hlt]
  · rfl

theorem bgOpaque_iff_of_raw {p : Ppu} {x raw : Nat} (hlt : raw < 4) (h : p.lcdc.getLsbD 0 = true → layerRaw p x = BitVec.ofNat 2 raw) :
    bgOpaque p x = true ↔ p.lcdc.getLsbD 0 = true ∧ raw ≠ 0 := by
  have hzero : BitVec.ofNat 2 raw = 0 ↔ raw = 0 := by
    rw [← BitVec.toNat_inj, BitVec.toNat_ofNat, Nat.mod_eq_of_lt hlt]
    rfl
  rw [bgOpaque, decide_eq_true_iff]
  cases hon : p.lcdc.getLsbD 0 with
  | false => simp [layerRaw_off hon]
  | true => rw [h hon, ne_eq, hzero, eq_self, true_and]

/-- Settles O53: the row is `renderRow`, and a column's layer pixel is the window's or the background's by the tile maps. -/
theorem renderedLine : Obligations.RenderedLine := by
  intro p _ hly
  have hrender : renderScanline p = { p with frame := setFrameRow p.ly.toNat (renderRow p) p.frame } := if_pos hly
  have hcolumn {x : Nat} (hx : x < 160) : (renderRow p)[x]? = some (renderPixel p (paintOrder p (selectSprites p)) x) := by
    simp [renderRow, hx]
  refine ⟨renderRow p, by rw [hrender], ?_, renderRow_length p, fun y hy => ?_, fun x hx => hcolumn hx, ?_⟩
  · rw [hrender, frameRow_setFrameRow_same]
  · rw [hrender, frameRow_setFrameRow_other hy]
  intro x hx inWindow px py map id tile plane raw
  have hlt : raw < 4 := planePixel_lt p (tile + 2 * (py % 8)) (7 - px % 8)
  have hraw (hon : p.lcdc.getLsbD 0 = true) : layerRaw p x = BitVec.ofNat 2 raw := by
    by_cases hw : inWindow
    · simp only [raw, plane, tile, id, map, px, py, if_pos hw]
      exact layerRaw_window hon hw
    · simp only [raw, plane, tile, id, map, px, py, if_neg hw]
      exact layerRaw_background hon hw
  refine ⟨layerShade_of_raw hlt hraw, bgOpaque_iff_of_raw hlt hraw, fun hoff => ?_⟩
  have hnone : selectSprites p = [] := by simp only [selectSprites, hoff, Bool.false_eq_true, if_false]
  rw [hcolumn hx, hnone]
  rfl

end Sys2Proof.Machine
end

section
/-!
SUPPORT. Sprites (62_ppu.md R493, R494, R496): the selection, a sprite's pixel, and painting in priority order.
-/

namespace Sys2Proof.Machine

/-! The selection (R493). -/

theorem mem_take_singleton_iff (k n N : Nat) : n ∈ [N].take k ↔ n = N ∧ 0 < k := by
  cases k <;> simp

/-- The first `m` numbers with a property are those with fewer than `m` before them. -/
theorem mem_take_filter_range_iff (P : Nat → Bool) (m N n : Nat) :
    n ∈ ((List.range N).filter P).take m ↔ n < N ∧ P n = true ∧ ((List.range n).filter P).length < m := by
  induction N with
  | zero => simp
  | succ N ih =>
    rw [List.range_succ, List.filter_append, List.take_append, List.mem_append, ih, List.filter_singleton]
    obtain rfl | hne := eq_or_ne n N
    · cases hN : P n <;> simp [mem_take_singleton_iff]
    · have hlt : n < N + 1 ↔ n < N := by omega
      cases hN : P N <;> simp [mem_take_singleton_iff, hne, hlt]

theorem spriteCovers_iff (p : Ppu) (n : Nat) :
    spriteCovers p n = true ↔
      (oamRecord p n).y.toNat ≤ p.ly.toNat + 16 ∧ p.ly.toNat + 16 < (oamRecord p n).y.toNat + spriteHeight p := by
  simp [spriteCovers]

theorem selectSprites_length_le (p : Ppu) : (selectSprites p).length ≤ 10 := by
  unfold selectSprites
  split <;> simp

theorem mem_selectSprites_iff (p : Ppu) (n : Nat) :
    n ∈ selectSprites p ↔ p.lcdc.getLsbD 1 = true ∧ n < 40 ∧ spriteCovers p n = true ∧
      ((List.range n).filter (spriteCovers p)).length < 10 := by
  unfold selectSprites
  split
  · rw [mem_take_filter_range_iff]
    simp only [*, true_and]
  · simp only [*, List.not_mem_nil, Bool.false_eq_true, false_and]

theorem selectSprites_rising (p : Ppu) : (selectSprites p).Pairwise (· < ·) := by
  unfold selectSprites
  split
  · exact (List.pairwise_lt_range.filter _).take
  · exact .nil

/-! A sprite's pixel (R496). -/

theorem toNat_and_0xFE (v : Byte) : (v &&& 0xFE#8).toNat = 2 * (v.toNat / 2) := by revert v; decide

/-- The row of sprite `o` that line LY shows, before its tile is chosen. -/
def spriteRow (p : Ppu) (o : OamRecord) : Nat :=
  if o.yflip then spriteHeight p - 1 - (p.ly.toNat + 16 - o.y.toNat) else p.ly.toNat + 16 - o.y.toNat

/-- The tile of that row: of a 16-row sprite an even one or the next. -/
def spriteTile (p : Ppu) (o : OamRecord) : Nat :=
  if spriteHeight p = 16 then 2 * (o.tile.toNat / 2) + spriteRow p o / 8 else o.tile.toNat

/-- The tile's column that screen column `x` shows. -/
def spriteColumn (o : OamRecord) (x : Nat) : Nat := if o.xflip then 7 - (x + 8 - o.x.toNat) else x + 8 - o.x.toNat

theorem spriteRaw_eq (p : Ppu) (n x : Nat) :
    spriteRaw p n x =
      if (oamRecord p n).x.toNat ≤ x + 8 ∧ x + 8 < (oamRecord p n).x.toNat + 8 then
        some (BitVec.ofNat 2 (planePixel p (16 * spriteTile p (oamRecord p n) + 2 * (spriteRow p (oamRecord p n) % 8))
          (7 - spriteColumn (oamRecord p n) x)))
      else none := by
  unfold spriteRaw
  refine if_congr (and_congr_right fun _ => Nat.add_lt_add_iff_right.symm) ?_ rfl
  simp only [toNat_and_0xFE]
  exact congrArg some (tilePixel_eq_ofNat p rfl _ _)

/-! The order of priority (R494) and painting in it (R496). -/

theorem spritePriority_iff (p : Ppu) (a b : Nat) :
    spritePriority p a b = true ↔ (oamRecord p a).x.toNat < (oamRecord p b).x.toNat ∨
      (oamRecord p a).x.toNat = (oamRecord p b).x.toNat ∧ a < b := by
  simp [spritePriority]

theorem spritePriority_asymm {p : Ppu} {a b : Nat} (h : spritePriority p a b = true) : ¬spritePriority p b a = true := by
  rw [spritePriority_iff] at h ⊢
  omega

theorem spritePriority_trans {p : Ppu} {a b c : Nat} (h : spritePriority p a b = true) (h' : spritePriority p b c = true) :
    spritePriority p a c = true := by
  rw [spritePriority_iff] at h h' ⊢
  omega

theorem spritePriority_total {p : Ppu} {a b : Nat} (hne : a ≠ b) (h : ¬spritePriority p a b = true) : spritePriority p b a = true := by
  rw [spritePriority_iff] at h ⊢
  omega

theorem paintInsert_perm (p : Ppu) (n : Nat) (l : List Nat) : (paintInsert p n l).Perm (n :: l) := by
  induction l with
  | nil => exact .refl _
  | cons m l ih =>
    unfold paintInsert
    split
    · exact .refl _
    · exact (ih.cons m).trans (.swap n m l)

theorem paintOrder_perm (p : Ppu) (l : List Nat) : (paintOrder p l).Perm l := by
  induction l with
  | nil => exact .refl _
  | cons n l ih => exact (paintInsert_perm p n _).trans (ih.cons n)

theorem paintInsert_sorted {p : Ppu} {n : Nat} {l : List Nat} (hn : n ∉ l) (h : l.Pairwise fun a b => spritePriority p b a = true) :
    (paintInsert p n l).Pairwise fun a b => spritePriority p b a = true := by
  induction l with
  | nil => exact List.pairwise_singleton _ _
  | cons m l ih =>
    obtain ⟨hm, hl⟩ := List.pairwise_cons.mp h
    obtain ⟨hne, hnl⟩ := not_or.mp (mt List.mem_cons.mpr hn)
    unfold paintInsert
    split
    next hmn =>
      refine List.pairwise_cons.mpr ⟨fun b hb => ?_, h⟩
      obtain rfl | hb := List.mem_cons.mp hb
      · exact hmn
      · exact spritePriority_trans (hm b hb) hmn
    next hmn =>
      refine List.pairwise_cons.mpr ⟨fun b hb => ?_, ih hnl hl⟩
      obtain rfl | hb := List.mem_cons.mp ((paintInsert_perm p n l).mem_iff.mp hb)
      · exact spritePriority_total (Ne.symm hne) hmn
      · exact hm b hb

/-- Later in painting order is higher in priority. -/
theorem paintOrder_sorted (p : Ppu) {l : List Nat} (h : l.Nodup) : (paintOrder p l).Pairwise fun a b => spritePriority p b a = true := by
  induction l with
  | nil => exact .nil
  | cons n l ih =>
    obtain ⟨hn, hl⟩ := List.nodup_cons.mp h
    exact paintInsert_sorted (mt (paintOrder_perm p l).mem_iff.mp hn) (ih hl)

/-- Sprite `n` shows its pixel `raw` in column `x`: it has one there, not transparent and not hidden behind the background. -/
def Shows (p : Ppu) (x n : Nat) (raw : BitVec 2) : Prop :=
  spriteRaw p n x = some raw ∧ raw ≠ 0 ∧ ¬((oamRecord p n).behindBg = true ∧ bgOpaque p x = true)

theorem paintSprite_of_shows {p : Ppu} {x n : Nat} {raw : BitVec 2} (h : Shows p x n raw) (under : Shade) :
    paintSprite p x under n = shade (if (oamRecord p n).pal then p.obp1 else p.obp0) raw := by
  obtain ⟨hraw, hne, hbg⟩ := h
  simp only [paintSprite, hraw]
  rw [if_neg hne, if_neg (by rwa [Bool.and_eq_true])]

theorem paintSprite_of_not_shows {p : Ppu} {x n : Nat} (h : ∀ raw, ¬Shows p x n raw) (under : Shade) :
    paintSprite p x under n = under := by
  unfold paintSprite
  split
  · rfl
  next raw hraw =>
    split
    · rfl
    next hne =>
      split
      · rfl
      next hbg => exact absurd ⟨hraw, hne, by rwa [Bool.and_eq_true] at hbg⟩ (h raw)

theorem foldl_paintSprite_of_not_shows {p : Ppu} {x : Nat} {l : List Nat} (h : ∀ n ∈ l, ∀ raw, ¬Shows p x n raw) (under : Shade) :
    l.foldl (paintSprite p x) under = under := by
  induction l with
  | nil => rfl
  | cons n l ih =>
    rw [List.foldl_cons, paintSprite_of_not_shows (h n (by simp)), ih (fun m hm => h m (by simp [hm]))]

/-- The sprite that has priority over every other that shows a pixel is painted after them. -/
theorem renderPixel_of_first {p : Ppu} {x n : Nat} {l : List Nat} {raw : BitVec 2} (hnodup : l.Nodup) (hn : n ∈ l) (h : Shows p x n raw)
    (hfirst : ∀ m ∈ l, ∀ raw', Shows p x m raw' → m ≠ n → spritePriority p n m = true) :
    renderPixel p (paintOrder p l) x = shade (if (oamRecord p n).pal then p.obp1 else p.obp0) raw := by
  obtain ⟨before, after, hsplit⟩ := List.append_of_mem ((paintOrder_perm p l).mem_iff.mpr hn)
  have hsorted := paintOrder_sorted p hnodup
  rw [hsplit, List.pairwise_append, List.pairwise_cons] at hsorted
  obtain ⟨-, ⟨hafter, -⟩, -⟩ := hsorted
  have hnone : ∀ m ∈ after, ∀ raw', ¬Shows p x m raw' := by
    intro m hm raw' hshows
    have hl : m ∈ l := (paintOrder_perm p l).mem_iff.mp (by simp [hsplit, hm])
    have hne : m ≠ n := by
      rintro rfl
      exact spritePriority_asymm (hafter m hm) (hafter m hm)
    exact spritePriority_asymm (hafter m hm) (hfirst m hl raw' hshows hne)
  rw [renderPixel, hsplit, List.foldl_append, List.foldl_cons, paintSprite_of_shows h, foldl_paintSprite_of_not_shows hnone]

end Sys2Proof.Machine

namespace Sys2Proof

open Machine

/-- Settles O54: the selection by counting, a pixel by its tile, and the shown sprite as the last visible one in painting order. -/
theorem spritePriority : Obligations.SpritePriority := by
  intro p x sel h covers pixel visible above shown
  have hnodup : sel.Nodup := (selectSprites_rising p).imp Nat.ne_of_lt
  refine ⟨selectSprites_length_le p, fun n => ?_, spriteCovers_iff p, selectSprites_rising p, fun n _ => spriteRaw_eq p n x,
    shade_eq_ofNat, fun hnone => ?_, fun n hn raw hvisible hfirst => ?_⟩
  · rw [mem_selectSprites_iff, spriteCovers_iff]
    exact Iff.rfl
  · exact foldl_paintSprite_of_not_shows (fun n hn => hnone n ((paintOrder_perm p sel).mem_iff.mp hn)) _
  · refine renderPixel_of_first hnodup hn hvisible fun m hm raw' hm' hne => (spritePriority_iff p n m).mpr ?_
    obtain hlt | ⟨heq, hlt⟩ := hfirst m hm raw' hm' hne
    · exact .inl hlt
    · exact .inr ⟨congrArg BitVec.toNat heq, hlt⟩

end Sys2Proof
end
